-- ==== Sys2Proof/Word.lean ====
section
/-! DEFINITION. The word types of the spec (00_scope.md R10): unsigned 8, 16 and 32 bit values. Instants and durations
are natural numbers of microseconds of model time, which never wrap (R13). -/

namespace Sys2Proof

/-- `u8`, a byte (R10). -/
abbrev Byte := BitVec 8

/-- `u16` (R10). -/
abbrev U16 := BitVec 16

/-- `u32` (R10). -/
abbrev U32 := BitVec 32

end Sys2Proof
end

