-- ==== Sys2Proof/Config.lean ====
section
/-! DEFINITION. What is fixed for the machine: the constants of 00_scope.md R5 to R9, the open parameter BAUD (R8), and
the one free value that no rule fixes. -/

namespace Sys2Proof.Config

/-- Slots of the registry, the document's `RS485_MAX_SLAVES` (R5). -/
abbrev MAX_SLAVES : Nat := 32
/-- Words of a snapshot (R5). -/
abbrev SNAP_CAP : Nat := 64
/-- Bytes of a request frame (R5). -/
def REQ_LEN : Nat := 8
/-- Least length of a response frame (R5). -/
def RSP_MIN : Nat := 5
/-- Bytes of a response that are not data (R5). -/
def RSP_OVERHEAD : Nat := 5

/-- Initial value of the running CRC (R6). -/
def CRC_INIT : U16 := 0xFFFF
/-- The reflected polynomial (R6). -/
def CRC_POLY : U16 := 0xA001
/-- The function code of "Read Holding Registers" (R6). -/
def FUNC_READ : Byte := 0x03
/-- Least slave address of the documented range (R6), which no operation enforces (43_registry.md R151). -/
def ADDR_MIN : Byte := 1
/-- Greatest slave address of the documented range (R6), not enforced either. -/
def ADDR_MAX : Byte := 247
/-- Least register count of the documented range (R6), not enforced. -/
def COUNT_MIN : U16 := 1
/-- Greatest register count of the documented range (R6): REGISTER does not enforce it, step 5 of PARSE does, against `SNAP_CAP`. -/
def COUNT_MAX : U16 := 64

/-- Bit-times of a character: 1 start, 8 data, 1 stop (R7). -/
def BITS_PER_CHAR : Nat := 10
/-- Microseconds times bits per second of one character, 10_000_000 (R7; 93_implementation_defined.md U13 ties the two). -/
def CHAR_NUM_US : Nat := BITS_PER_CHAR * 1_000_000
/-- Character times of the guard band (R7). -/
def GUARD_CHARS : Nat := 3
/-- Numerator of the silent interval, `7 / 2` character times (R7). -/
def SILENT_NUM : Nat := 7
/-- Its denominator (R7). -/
def SILENT_DEN : Nat := 2
/-- The additive margin of the receive time-out (R7). -/
def MARGIN_US : Nat := 1_000_000
/-- Lower bound of the receive time-out (R7). -/
def TIMEOUT_MIN_MS : Nat := 20
/-- Upper bound of the receive time-out (R7). -/
def TIMEOUT_MAX_MS : Nat := 5000
/-- Bound of the wait for the bus (R7, the document's default). -/
def BUS_WAIT_MS : Nat := 200
/-- Bound of the wait for the registry lock (R7, the document's default). No rule reaches the end of this wait
(43_registry.md R157). -/
def LOCK_WAIT_MS : Nat := 200
/-- Sleep between two scans (R7). -/
def TICK_MS : Nat := 10
/-- What an interval of 0 means (R7). -/
def DEFAULT_INTERVAL_MS : U32 := 1000

/-- Width of the millisecond tick and of all that derives from it (R9). -/
abbrev TICK_WIDTH : Nat := 32
/-- Capacity of the receive buffer in bytes, `RSP_OVERHEAD + 2 * SNAP_CAP` (R9). -/
def RX_CAP : Nat := 133
/-- Capacity of the transmit buffer in bytes, `REQ_LEN` (R9). -/
def TX_CAP : Nat := 8

end Sys2Proof.Config

namespace Sys2Proof

/-- A baud rate in the range `1 .. 10_000_000` of 00_scope.md R8, held as the rate less one, so that a rate outside the range
cannot be written (D3 and U11 refuse such a rate). -/
structure Baud where
  pred : Fin 10_000_000
  deriving DecidableEq, Repr, Inhabited

/-- The rate in bits per second. -/
def Baud.rate (b : Baud) : Nat := b.pred.val + 1

/-- The open parameter BAUD at reset (R8, D3): no value is fixed, and nothing in Lean can evaluate it. Log entry 4. -/
opaque Config.baud : Baud

/-- FREE VALUE. How long the block stays idle when nothing is pending (60_exceptions.md R206 lets time advance by any amount
then): nothing constrains it. Log entry 9. -/
opaque Config.idleDelay : Nat → Nat

end Sys2Proof
end

