-- ==== Sys2Proof/Machine/Crc.lean ====
section
/-! DEFINITION. The CRC Engine's functions (40_crc.md R100 to R102) and the byte order of 16-bit quantities
(20_memory.md R53, R54). -/

namespace Sys2Proof.Machine

/-- `v[15:8]` (R10). -/
def hiByte (v : U16) : Byte := v.extractLsb' 8 8

/-- `v[7:0]` (R10). -/
def loByte (v : U16) : Byte := v.extractLsb' 0 8

/-- `be16(hi, lo) = 256 * hi + lo` (R11, R53). -/
def be16 (hi lo : Byte) : U16 := hi ++ lo

/-- `le16(lo, hi) = lo + 256 * hi` (R11, R54). -/
def le16 (lo hi : Byte) : U16 := hi ++ lo

/-- `crc_bit` (R100): the test is made before the shift, the shift is logical. -/
def crcBit (c : U16) : U16 :=
  if c.getLsbD 0 then (c >>> 1) ^^^ Config.CRC_POLY else c >>> 1

/-- `crc_byte` (R101): exactly eight applications of `crc_bit`. -/
def crcByte (c : U16) (b : Byte) : U16 :=
  crcBit (crcBit (crcBit (crcBit (crcBit (crcBit (crcBit (crcBit (c ^^^ b.setWidth 16))))))))

/-- `CRC16` (R102), bytes in index order. -/
def crc16 (bytes : List Byte) : U16 := bytes.foldl crcByte Config.CRC_INIT

/-- The two CRC bytes as they end a frame: `crcLo, crcHi` (R54). -/
def crcBytes (c : U16) : List Byte := [loByte c, hiByte c]

/-- The first six bytes of a request (30_encoding.md R75). -/
def req8Header (address : Byte) (startReg regCount : U16) : List Byte :=
  [address, Config.FUNC_READ, hiByte startReg, loByte startReg, hiByte regCount, loByte regCount]

/-- The bytes of a response before its CRC (30_encoding.md R76). -/
def rspvHeader (address : Byte) (data : List Byte) : List Byte :=
  [address, Config.FUNC_READ, BitVec.ofNat 8 data.length] ++ data

end Sys2Proof.Machine
end

