-- ==== Sys2Proof/Syntax.lean ====
section
/-! DEFINITION. The syntax: the error codes, the operand and result records, and one constructor of Instr for each of the
20 rows of spec/opcode_table.json. -/

namespace Sys2Proof

/-- The error enumeration of 60_exceptions.md R190, in the order of its table; `ok` is "0 = OK". -/
inductive ErrCode where
  | ok
  | errBuild
  | errBusBusy
  | errAllocation
  | errIoTimeout
  | errShortFrame
  | errAddressOrFunctionMismatch
  | errByteCountMismatch
  | errCrcMismatch
  | errTooManyRegisters
  | errLockTimeout
  | errFull
  | errNotFound
  deriving DecidableEq, Repr

/-- `SlaveConfig`, the four fields of 10_state.md R29 in the document's order (30_encoding.md R80). -/
structure SlaveConfig where
  address : Byte
  registerStart : U16
  registerCount : U16
  pollIntervalMs : U32
  deriving DecidableEq, Repr

/-- The result record of SNAPSHOT: the 6-tuple of 30_encoding.md R80, `values` cut to its meaningful words. -/
structure SnapshotView where
  address : Byte
  registerStart : U16
  registerCount : U16
  values : List U16
  timestampMs : U32
  lastError : ErrCode
  deriving DecidableEq, Repr

/-- What an operation returns to its caller on the typed result port (30_encoding.md R79). -/
inductive OpResult where
  /-- `Ok` of TRANSMIT and UNREGISTER. -/
  | ok
  /-- An error code returned synchronously (60_exceptions.md R209). -/
  | err (e : ErrCode)
  /-- The result of CRC16. -/
  | crc (c : U16)
  /-- The result of BUILD and SYNTH. -/
  | frame (bytes : List Byte)
  /-- The result of PARSE. -/
  | values (vals : List U16)
  /-- The result of RECEIVE. -/
  | bytes (bs : List Byte)
  /-- The result of REGISTER. -/
  | slotIndex (i : Fin Config.MAX_SLAVES)
  /-- The result of SNAPSHOT. -/
  | snapshot (v : SnapshotView)
  /-- The result of COUNT. -/
  | count (n : Nat)
  deriving DecidableEq, Repr

/-- One constructor per row of the opcode table, in the table's order, operands as 30_encoding.md R79 lists them. -/
inductive Instr where
  /-- `CRC16` (40_crc.md R102). -/
  | crc16 (bytes : List Byte)
  /-- `BUILD` (41_frame_codec.md R110). -/
  | build (address : Byte) (startReg : U16) (regCount : U16) (cap : Nat)
  /-- `PARSE` (41_frame_codec.md R111). -/
  | parse (frame : List Byte) (expectedAddress : Byte) (expectedCount : U16)
  /-- `TRANSMIT` (42_bus_transport.md R128). -/
  | transmit (frame : List Byte)
  /-- `RECEIVE` (42_bus_transport.md R133). -/
  | receive (len : Nat) (timeoutMs : Nat)
  /-- `REGISTER` (43_registry.md R150). -/
  | register (config : SlaveConfig)
  /-- `UNREGISTER` (43_registry.md R152). -/
  | unregister (slotIndex : Int)
  /-- `SNAPSHOT` (43_registry.md R154). -/
  | snapshot (slotIndex : Int)
  /-- `COUNT` (43_registry.md R156). -/
  | count
  /-- `START` (44_scheduler.md R165). -/
  | start
  /-- `STOP` (44_scheduler.md R166). -/
  | stop
  /-- The request frame `REQ8` (30_encoding.md R75), with the CRC its last two bytes carry. -/
  | req8 (address : Byte) (startReg : U16) (regCount : U16) (crc : U16)
  /-- The response frame `RSPV` (30_encoding.md R76): its `byteCount` is the number of data bytes. -/
  | rspv (address : Byte) (data : List Byte) (crc : U16)
  /-- Event `TX_DONE` (42_bus_transport.md R130). -/
  | txDone
  /-- Event `DE_RELEASE` (42_bus_transport.md R131). -/
  | deRelease
  /-- Event `WAKE` (44_scheduler.md R168). -/
  | wake
  /-- Event `SCAN_STEP` (44_scheduler.md R169). -/
  | scanStep
  /-- Event `POLL` (44_scheduler.md R172): the next step of the poll transaction. -/
  | poll
  /-- Event `SLEEP` (44_scheduler.md R183). -/
  | sleep
  /-- Pseudo-operation `SYNTH` of the test bench (41_frame_codec.md R117). -/
  | synth (address : Byte) (regCount : Nat) (values : List U16)
  deriving DecidableEq, Repr

/-- The typed operand ports of 30_encoding.md R79. A command reads the ports its row names and ignores the others; a port
that the agent does not drive holds zero. -/
structure OperandPorts where
  /-- `bytes` of CRC16; `frame` of PARSE and TRANSMIT. -/
  bytes : List Byte := []
  /-- `address` of BUILD; `expectedAddress` of PARSE. -/
  address : Byte := 0
  startReg : U16 := 0
  /-- `count` of BUILD; `expectedCount` of PARSE. -/
  regCount : U16 := 0
  cap : Nat := 0
  len : Nat := 0
  timeoutMs : Nat := 0
  slotIndex : Int := 0
  config : SlaveConfig := ⟨0, 0, 0, 0⟩
  deriving DecidableEq, Repr

/-- What the outside can put on the block's boundary at one instant. Log entries 1 and 10. -/
inductive PortWord where
  /-- A command code with its operand ports (30_encoding.md R79). -/
  | command (code : BitVec 4) (ops : OperandPorts)
  /-- A request frame handed to the transmit side by a test bench in the scheduler's place (42_bus_transport.md R125). -/
  | txFrame (bytes : List Byte)
  /-- Bytes that arrive on the serial receive line (42_bus_transport.md R134). -/
  | rxLine (bytes : List Byte)
  deriving DecidableEq, Repr

end Sys2Proof
end

