-- ==== Sys2Proof/Machine/Codec.lean ====
section
/-! DEFINITION. The Frame Codec's functions: BUILD, PARSE and SYNTH as functions of their operands
(41_frame_codec.md R110, R111, R117). -/

namespace Sys2Proof.Machine

/-- `BUILD` (R110): the capacity check comes first, then the six bytes and their CRC, low byte first. -/
def build (address : Byte) (startReg regCount : U16) (cap : Nat) : Except ErrCode (List Byte) :=
  if cap < Config.REQ_LEN then .error .errBuild
  else
    let h := req8Header address startReg regCount
    .ok (h ++ crcBytes (crc16 h))

/-- Byte `i` of a frame (R11). Every use in `parse` is at an index that the checks before it have shown to exist. -/
def byteAt (frame : List Byte) (i : Nat) : Byte := frame.getD i 0

/-- `values[k] = be16(frame[3+2k], frame[4+2k])` for `k = 0 .. n-1` (20_memory.md R53). -/
def decodeWords (frame : List Byte) (n : Nat) : List U16 :=
  (List.range n).map fun k => be16 (byteAt frame (3 + 2 * k)) (byteAt frame (4 + 2 * k))

/-- `PARSE` (R111): the checks in the order written, the first that fails decides (R112); the check between steps 3 and 4 is
R113's; `2 * expectedCount` is not truncated. -/
def parse (frame : List Byte) (expectedAddress : Byte) (expectedCount : U16) : Except ErrCode (List U16) :=
  if frame.length < Config.RSP_MIN then .error .errShortFrame
  else if byteAt frame 0 ≠ expectedAddress ∨ byteAt frame 1 ≠ Config.FUNC_READ then
    .error .errAddressOrFunctionMismatch
  else
    let byteCount := (byteAt frame 2).toNat
    if byteCount ≠ 2 * expectedCount.toNat then .error .errByteCountMismatch
    else if frame.length < Config.RSP_OVERHEAD + byteCount then .error .errShortFrame
    else if crc16 (frame.take (3 + byteCount)) ≠ le16 (byteAt frame (3 + byteCount)) (byteAt frame (4 + byteCount)) then
      .error .errCrcMismatch
    else if expectedCount.toNat > Config.SNAP_CAP then .error .errTooManyRegisters
    else .ok (decodeWords frame expectedCount.toNat)

/-- The data bytes of a list of words, big-endian (R53). -/
def encodeWords (values : List U16) : List Byte := values.flatMap fun v => [hiByte v, loByte v]

/-- `SYNTH` (R117), under its precondition: the frame a conforming slave would return. The byte count is `2 * count`. -/
def synth (address : Byte) (regCount : Nat) (values : List U16) : List Byte :=
  let h := [address, Config.FUNC_READ, BitVec.ofNat 8 (2 * regCount)] ++ encodeWords values
  h ++ crcBytes (crc16 h)

end Sys2Proof.Machine
end

