-- ==== Sys2Proof/Machine/State.lean ====
section
/-! DEFINITION. State: every piece of state of 10_state.md R20, the model's own three fields, the reasons a step can stop, and the
state after reset (R42). -/

namespace Sys2Proof.Machine

/-- `tphase` (10_state.md R25). -/
inductive TPhase where
  | idle
  | transmitting
  | guardBand
  deriving DecidableEq, Repr

/-- `de_timer` (R26). -/
structure DeTimer where
  armed : Bool
  deadline : Nat
  deriving DecidableEq, Repr

/-- Who a pending transport operation returns to: the poll in flight, or an external caller in its place (42_bus_transport.md R125).
Log entry 8. -/
inductive Caller where
  | scheduler
  | bench
  deriving DecidableEq, Repr

/-- `bus_wait` when it is not `None` (R37), with its caller. -/
structure BusWait where
  issuedAt : Nat
  frame : List Byte
  caller : Caller
  deriving DecidableEq, Repr

/-- `rx_op` when it is not `None` (R37), with its caller and the bytes the environment has delivered so far (log entry 2). -/
structure RxOp where
  issuedAt : Nat
  len : Nat
  timeoutMs : Nat
  caller : Caller
  got : List Byte
  deriving DecidableEq, Repr

/-- `SlaveSnapshot` (R31): 64 words, of which the first `valuesLen` are meaningful. -/
structure Snapshot where
  address : Byte
  registerStart : U16
  registerCount : U16
  values : Vector U16 Config.SNAP_CAP
  valuesLen : Nat
  timestampMs : U32
  lastError : ErrCode
  deriving DecidableEq, Repr

/-- `SlaveState`, one slot (R30). -/
structure SlaveState where
  cfg : SlaveConfig
  lastPollTick : U32
  inUse : Bool
  snap : Snapshot
  deriving DecidableEq, Repr

/-- `reg_lock` (R34). -/
inductive LockState where
  | free
  | held
  deriving DecidableEq, Repr

/-- `sched_phase` (R35). -/
inductive SchedPhase where
  | stopped
  | sleeping
  | scanning
  | inPoll
  deriving DecidableEq, Repr

/-- `poll.step` (R36): the spec's `WaitBus` and `WaitRx`, and three stages that last no time, at which the next poll step is due
(60_exceptions.md R207 counts poll steps as transitions). Log entry 7. -/
inductive PollStep where
  /-- The slot was found due; steps 1 to 3 and the issue of TRANSMIT come next. -/
  | start
  /-- The spec's `WaitBus`. -/
  | waitBus
  /-- TRANSMIT returned Ok; the issue of RECEIVE comes next. -/
  | granted
  /-- The spec's `WaitRx`. -/
  | waitRx
  /-- RECEIVE returned; length validation, parse and publish come next. -/
  | received
  deriving DecidableEq, Repr

/-- `poll`, the latch of the transaction in flight (R36). `rxlen` is the length of `rxbuf`. -/
structure PollLatch where
  slot : Fin Config.MAX_SLAVES
  cfg : SlaveConfig
  now : U32
  txbuf : List Byte
  expectedLen : Nat
  timeoutMs : Nat
  step : PollStep
  rxbuf : List Byte
  deriving DecidableEq, Repr

/-- One move of the outside world: not before instant `due`, and, where internal transitions of class (3) are possible at the
instant it is made, after `yields` of them (60_exceptions.md R207: any order). Log entry 1. -/
structure Input where
  due : Nat
  yields : Nat
  word : PortWord
  deriving DecidableEq, Repr

/-- The complete state (R20). -/
structure State where
  /-- The direction output (R24). -/
  de : Bool
  tphase : TPhase
  /-- `tx_data_end` (R26). -/
  txDataEnd : Nat
  deTimer : DeTimer
  busWait : Option BusWait
  rxOp : Option RxOp
  /-- `slot[0..31]` (R28). -/
  slots : Vector SlaveState Config.MAX_SLAVES
  slaveCount : Nat
  regLock : LockState
  running : Bool
  taskAlive : Bool
  schedPhase : SchedPhase
  /-- `scan_i`, 0..32 (R35). -/
  scanI : Fin (Config.MAX_SLAVES + 1)
  wakeAt : Nat
  poll : PollLatch
  /-- Model time `T` (R40). -/
  time : Nat
  /-- Output log of the bytes written to the serial channel (R27), oldest first. -/
  txStream : List (Nat × List Byte)
  /-- Output log of the changes of `de` (R27), oldest first. -/
  deLog : List (Nat × Bool)
  /-- `BAUD` (R39): no operation writes it. -/
  baud : Baud
  /-- MODEL'S OWN: the result port, what the last operation to return to an external caller returned (R43; 30_encoding.md R79). -/
  result : Option OpResult
  /-- MODEL'S OWN: what the outside will do, in order (R41). -/
  inputs : List Input
  /-- MODEL'S OWN: how many free values have been drawn. -/
  draws : Nat
  deriving DecidableEq, Repr

/-- Why the machine stops with a fault. -/
inductive Fault where
  /-- Raised by `State.advance` when time would pass although a pending deadline already lies in the past. No event can fire for
  that deadline any more (60_exceptions.md R206), so the state has no meaning. SAFE: no run from reset reaches it. -/
  | deadlineMissed
  deriving DecidableEq, Repr

/-- Why the model gives no meaning. Each is SAFE: it says nothing where the spec says nothing. -/
inductive Refusal where
  /-- Raised by `exec` for an instruction without a meaning; no arm does so now. -/
  | notModelled (mnemonic : String)
  /-- Raised by a step whose input is a reserved command code (30_encoding.md R83, U9). -/
  | reservedCommand (code : BitVec 4)
  /-- Raised by a step whose input hands the transmit side bytes that are no request frame (30_encoding.md R75, R81). -/
  | notRequestFrame
  /-- Raised by an event's meaning where its enabling condition is false: no agent can issue an event (60_exceptions.md R205). The
  step never runs one then. -/
  | eventNotEnabled (event : String)
  /-- Raised by TRANSMIT, RECEIVE and REQ8 from outside while the scheduler task is alive (93_implementation_defined.md U6). -/
  | schedulerOwnsBus
  /-- Raised by a TRANSMIT that would be a second waiter for the bus (U6). -/
  | secondWaiter
  /-- Raised by a RECEIVE while one is pending (U6). -/
  | secondReceive
  /-- Raised by UNREGISTER of the slot whose poll is in flight (43_registry.md R153, U8). -/
  | slotInFlight
  /-- Raised by SYNTH outside its precondition (41_frame_codec.md R117). -/
  | synthPrecondition
  deriving DecidableEq, Repr

/-- Contents of a free slot at reset: R42 leaves them unspecified, here zero (log entry 5). -/
def SlaveState.blank : SlaveState where
  cfg := ⟨0, 0, 0, 0⟩
  lastPollTick := 0
  inUse := false
  snap := ⟨0, 0, 0, Vector.replicate Config.SNAP_CAP 0, 0, 0, .ok⟩

/-- Contents of the poll latch at reset: R42 leaves them unspecified, here zero (log entry 5). -/
def PollLatch.blank : PollLatch where
  slot := 0
  cfg := ⟨0, 0, 0, 0⟩
  now := 0
  txbuf := List.replicate Config.TX_CAP 0
  expectedLen := 0
  timeoutMs := 0
  step := .start
  rxbuf := []

/-- The state after reset (R42). -/
def State.reset : State where
  de := false
  tphase := .idle
  txDataEnd := 0
  deTimer := ⟨false, 0⟩
  busWait := none
  rxOp := none
  slots := Vector.replicate Config.MAX_SLAVES SlaveState.blank
  slaveCount := 0
  regLock := .free
  running := false
  taskAlive := false
  schedPhase := .stopped
  scanI := 0
  wakeAt := 0
  poll := PollLatch.blank
  time := 0
  txStream := []
  deLog := []
  baud := Config.baud
  result := none
  inputs := []
  draws := 0

/-- What one transition answers. -/
abbrev Out := Host.Outcome State Fault Refusal

end Sys2Proof.Machine
end

