-- ==== Sys2Proof/Machine/Operands.lean ====
section
/-! DEFINITION. How an operand reaches a slot (20_memory.md R50, R51; 43_registry.md R155) and what is read there. -/

namespace Sys2Proof.Machine

/-- A slot index is an integer of any magnitude; outside `0..31` it addresses no slot (R51, D29). -/
def slotOf (slotIndex : Int) : Option (Fin Config.MAX_SLAVES) :=
  if h : 0 ≤ slotIndex ∧ slotIndex < 32 then some ⟨slotIndex.toNat, by show slotIndex.toNat < 32; omega⟩ else none

/-- `slot[i]`. -/
def State.slot (s : State) (i : Fin Config.MAX_SLAVES) : SlaveState := s.slots[i]

/-- A slot index that names a slot in use, as UNREGISTER and SNAPSHOT require (43_registry.md R152, R154). -/
def State.usedSlot (s : State) (slotIndex : Int) : Option (Fin Config.MAX_SLAVES) :=
  match slotOf slotIndex with
  | some i => if (s.slot i).inUse then some i else none
  | none => none

/-- "the first free slot (linear scan)": the least index whose slot is free (43_registry.md R150). -/
def State.firstFree (s : State) : Option (Fin Config.MAX_SLAVES) :=
  (List.finRange Config.MAX_SLAVES).find? fun i => !(s.slot i).inUse

/-- What SNAPSHOT returns of a snapshot: the meaningful words only (43_registry.md R154). -/
def Snapshot.view (n : Snapshot) : SnapshotView where
  address := n.address
  registerStart := n.registerStart
  registerCount := n.registerCount
  values := n.values.toList.take n.valuesLen
  timestampMs := n.timestampMs
  lastError := n.lastError

end Sys2Proof.Machine
end

