-- ==== Sys2Proof/Machine/Timing.lean ====
section
/-! DEFINITION. The timing formulas (42_bus_transport.md R126, R127; 44_scheduler.md R170, R171, R174, R175) and the tick
counter (00_scope.md R13), on natural numbers, division rounding toward zero (D4). -/

namespace Sys2Proof.Machine

/-- `charTimeUs = 10_000_000 div BAUD` (R126). -/
def charTimeUs (b : Baud) : Nat := Config.CHAR_NUM_US / b.rate

/-- `txDataUs = len(frame) * charTimeUs` (R127). -/
def txDataUs (b : Baud) (len : Nat) : Nat := len * charTimeUs b

/-- `txTimeUs = (len(frame) + 3) * charTimeUs`: transmit time plus guard band (R127). -/
def txTimeUs (b : Baud) (len : Nat) : Nat := (len + Config.GUARD_CHARS) * charTimeUs b

/-- `silentUs = ceil(3.5 * charTimeUs) = (7 * charTimeUs + 1) div 2` (R175), the factor 3.5 being `SILENT_NUM / SILENT_DEN`. -/
def silentUs (b : Baud) : Nat := (Config.SILENT_NUM * charTimeUs b + (Config.SILENT_DEN - 1)) / Config.SILENT_DEN

/-- `clamp(v, lo, hi) = max(lo, min(hi, v))` (R12). -/
def clamp (v lo hi : Nat) : Nat := max lo (min hi v)

/-- `expectedLen = 5 + 2 * registerCount`, not truncated (R174). -/
def expectedLen (cfg : SlaveConfig) : Nat := Config.RSP_OVERHEAD + 2 * cfg.registerCount.toNat

/-- The response time-out in milliseconds (R175). -/
def timeoutMs (b : Baud) (expLen : Nat) : Nat :=
  clamp ((silentUs b + expLen * charTimeUs b + Config.MARGIN_US) / 1000) Config.TIMEOUT_MIN_MS Config.TIMEOUT_MAX_MS

/-- `tick_ms() = (T div 1000) mod 2^32` (R13). -/
def tickMs (t : Nat) : U32 := BitVec.ofNat Config.TICK_WIDTH (t / 1000)

/-- The effective interval: 0 is treated as 1000 ms (R170). -/
def effInterval (cfg : SlaveConfig) : U32 :=
  if cfg.pollIntervalMs = 0 then Config.DEFAULT_INTERVAL_MS else cfg.pollIntervalMs

/-- The due test: elapsed time modulo `2^32`, compared with `>=` (R170, R171). -/
def isDue (now lastPollTick : U32) (cfg : SlaveConfig) : Bool :=
  decide ((effInterval cfg).toNat ≤ (now - lastPollTick).toNat)

/-- The registration seed `(tick_ms() - eff) mod 2^32` (43_registry.md R150). -/
def seedTick (now : U32) (cfg : SlaveConfig) : U32 := now - effInterval cfg

end Sys2Proof.Machine
end

