-- ==== Sys2Proof/Machine/Flags.lean ====
section
/-! DEFINITION. The block has no arithmetic flags (10_state.md R38). What stands for them: the single-bit conditions that enable
the events (60_exceptions.md R204), and the deadlines that bound the passage of time (R206). -/

namespace Sys2Proof.Machine

/-- The number an error code is stored as, 8 bits (60_exceptions.md R190, D21). -/
def errNumber : ErrCode → Byte
  | .ok => 0
  | .errBuild => 1
  | .errBusBusy => 2
  | .errAllocation => 3
  | .errIoTimeout => 4
  | .errShortFrame => 5
  | .errAddressOrFunctionMismatch => 6
  | .errByteCountMismatch => 7
  | .errCrcMismatch => 8
  | .errTooManyRegisters => 9
  | .errLockTimeout => 10
  | .errFull => 11
  | .errNotFound => 12

/-- `TX_DONE` is enabled (42_bus_transport.md R130). -/
def State.txDoneEnabled (s : State) : Bool := s.tphase == .transmitting && s.time == s.txDataEnd

/-- `DE_RELEASE` is enabled (42_bus_transport.md R131). -/
def State.deReleaseEnabled (s : State) : Bool := s.deTimer.armed && s.time == s.deTimer.deadline

/-- The instant at which a bus wait ends without a grant (42_bus_transport.md R128). -/
def BusWait.deadline (w : BusWait) : Nat := w.issuedAt + Config.BUS_WAIT_MS * 1000

/-- The instant at which a receive window ends (42_bus_transport.md R133). -/
def RxOp.deadline (r : RxOp) : Nat := r.issuedAt + r.timeoutMs * 1000

/-- The bus wait expires now (60_exceptions.md R204). -/
def State.busWaitExpired (s : State) : Bool :=
  match s.busWait with
  | some w => s.time == w.deadline
  | none => false

/-- The receive window ends now (60_exceptions.md R204). -/
def State.rxExpired (s : State) : Bool :=
  match s.rxOp with
  | some r => s.time == r.deadline
  | none => false

/-- `WAKE` is enabled (44_scheduler.md R168). -/
def State.wakeEnabled (s : State) : Bool := s.schedPhase == .sleeping && s.time == s.wakeAt

/-- `SCAN_STEP` is enabled (44_scheduler.md R169). -/
def State.scanStepEnabled (s : State) : Bool := s.schedPhase == .scanning && decide (s.scanI.val < 32)

/-- `SLEEP` is enabled (44_scheduler.md R183). -/
def State.sleepEnabled (s : State) : Bool := s.schedPhase == .scanning && s.scanI.val == 32

/-- A poll step that takes no time is due: the transaction is in flight and waits for neither the bus nor the line
(44_scheduler.md R172). -/
def State.pollEnabled (s : State) : Bool :=
  s.schedPhase == .inPoll && !(s.poll.step == .waitBus || s.poll.step == .waitRx)

/-- The internal transition of class (3) that is enabled, if any (60_exceptions.md R207): at most one is. -/
def State.internalEvent (s : State) : Option Instr :=
  if s.wakeEnabled then some .wake
  else if s.scanStepEnabled then some .scanStep
  else if s.sleepEnabled then some .sleep
  else if s.pollEnabled then some .poll
  else none

/-- The pending deadlines (60_exceptions.md R206). -/
def State.deadlines (s : State) : List Nat :=
  (if s.tphase = .transmitting then [s.txDataEnd] else [])
  ++ (if s.deTimer.armed then [s.deTimer.deadline] else [])
  ++ (s.busWait.map BusWait.deadline).toList
  ++ (s.rxOp.map RxOp.deadline).toList
  ++ (if s.schedPhase = .sleeping then [s.wakeAt] else [])

/-- The poll in flight is of slot `i` (43_registry.md R153). -/
def State.pollsSlot (s : State) (i : Fin Config.MAX_SLAVES) : Bool := s.schedPhase == .inPoll && s.poll.slot == i

end Sys2Proof.Machine
end

