-- ==== Sys2Proof/Machine/Ops.lean ====
section
/-! DEFINITION. The shared operations on State: returning a result, the slot table and its write port, taking an error, granting the
bus, issuing and completing the two transport operations. -/

namespace Sys2Proof.Machine

/-- Return a result to an external caller on the result port (30_encoding.md R79). -/
def State.ret (s : State) (r : OpResult) : State := { s with result := some r }

/-- Return an error to an external caller: the code, and nothing else changes (60_exceptions.md R209). -/
def State.retErr (s : State) (e : ErrCode) : State := s.ret (.err e)

/-- Return the outcome of a pure operation. -/
def State.retExcept {α : Type} (s : State) (ok : α → OpResult) : Except ErrCode α → State
  | .ok a => s.ret (ok a)
  | .error e => s.retErr e

/-- `slot[i] <- x`. -/
def State.setSlot (s : State) (i : Fin Config.MAX_SLAVES) (x : SlaveState) : State := { s with slots := s.slots.set i x }

/-- `slot[i].snap <- n`. -/
def State.setSnap (s : State) (i : Fin Config.MAX_SLAVES) (n : Snapshot) : State := s.setSlot i { s.slot i with snap := n }

/-- Write `vals` over the words from index `k` on; the words behind them keep their content (43_registry.md R158). -/
def writeWords (v : Vector U16 Config.SNAP_CAP) (k : Nat) : List U16 → Vector U16 Config.SNAP_CAP
  | [] => v
  | x :: xs => writeWords (v.setIfInBounds k x) (k + 1) xs

/-- The snapshot after a publish at tick `now` (43_registry.md R158). -/
def Snapshot.publish (n : Snapshot) (vals : List U16) (count : Nat) (now : U32) : Snapshot :=
  { n with values := writeWords n.values 0 (vals.take count), valuesLen := count, timestampMs := now, lastError := .ok }

/-- `publish(i, vals, n)` under the registry lock (43_registry.md R158). A lock that is held is never released by any rule, so the
bounded wait would fail and the result is dropped (U4, log entry 12). -/
def State.publish (s : State) (i : Fin Config.MAX_SLAVES) (vals : List U16) (count : Nat) : State :=
  if s.regLock = .free then s.setSnap i ((s.slot i).snap.publish vals count (tickMs s.time)) else s

/-- `set_error(i, e)` under the registry lock (43_registry.md R158); dropped while the lock is held, as in `State.publish`. -/
def State.setError (s : State) (i : Fin Config.MAX_SLAVES) (e : ErrCode) : State :=
  if s.regLock = .free then s.setSnap i { (s.slot i).snap with lastError := e } else s

/-- End of a transaction, on every path (44_scheduler.md R184). -/
def State.endPoll (s : State) : State :=
  { s.setSlot s.poll.slot { s.slot s.poll.slot with lastPollTick := s.poll.now } with
    scanI := s.poll.slot.succ, schedPhase := .scanning }

/-- TAKING AN ERROR in a poll: the code is recorded on the slot and the transaction ends (60_exceptions.md R209). There is no
handler to go to; carrying on is `endPoll` (R210). -/
def State.failPoll (s : State) (e : ErrCode) : State := (s.setError s.poll.slot e).endPoll

/-- `poll.step <- x` (10_state.md R36). -/
def State.setStep (s : State) (x : PollStep) : State := { s with poll := { s.poll with step := x } }

/-- `TRANSMIT` returns Ok to its caller at the grant instant (42_bus_transport.md R129). -/
def State.transmitReturns (s : State) : Caller → State
  | .bench => s.ret .ok
  | .scheduler => s.setStep .granted

/-- The effects of a grant at the present instant (42_bus_transport.md R129). -/
def State.grant (s : State) (c : Caller) (frame : List Byte) : State :=
  ({ s with
    de := true
    deLog := s.deLog ++ [(s.time, true)]
    txStream := s.txStream ++ [(s.time, frame)]
    tphase := .transmitting
    txDataEnd := s.time + txDataUs s.baud frame.length
    deTimer := ⟨true, s.time + txTimeUs s.baud frame.length⟩ }).transmitReturns c

/-- Issue a `TRANSMIT` (42_bus_transport.md R128): a grant when the bus is idle, else a wait; a second waiter is refused (U6). -/
def State.issueTransmit (s : State) (c : Caller) (frame : List Byte) : Out :=
  if s.tphase = .idle then .next (s.grant c frame)
  else if s.busWait = none then .next { s with busWait := some ⟨s.time, frame, c⟩ }
  else .refused .secondWaiter

/-- The bounded wait ends without a grant: `ErrBusBusy` (42_bus_transport.md R128; 44_scheduler.md R176). -/
def State.busWaitTimeout (s : State) : Out :=
  match s.busWait with
  | some w =>
    let s' := { s with busWait := none }
    match w.caller with
    | .bench => .next (s'.retErr .errBusBusy)
    | .scheduler => .next (s'.failPoll .errBusBusy)
  | none => .refused (.eventNotEnabled "bus-wait time-out")

/-- `RECEIVE` returns `bytes` to its caller (42_bus_transport.md R133; 44_scheduler.md R179). -/
def State.completeReceive (s : State) (c : Caller) (bytes : List Byte) : State :=
  match c with
  | .bench => { s with rxOp := none }.ret (.bytes bytes)
  | .scheduler => { s with rxOp := none, poll := { s.poll with rxbuf := bytes, step := .received } }

/-- Issue a `RECEIVE` (42_bus_transport.md R133, R135): `ErrAllocation` when the buffer is too small; a second pending one is
refused (U6); a read of no bytes completes at once. DESIGN CHOICE where both apply, a read of more than `RX_CAP` bytes while one is
pending: the length is tested first, as R133 writes it, so it is `ErrAllocation` and no refusal (log entry 18). -/
def State.issueReceive (s : State) (c : Caller) (len timeoutMs : Nat) : Out :=
  if len > Config.RX_CAP then
    match c with
    | .bench => .next (s.retErr .errAllocation)
    | .scheduler => .next (s.failPoll .errAllocation)
  else if s.rxOp = none then
    if len = 0 then .next (s.completeReceive c [])
    else .next { s with rxOp := some ⟨s.time, len, timeoutMs, c, []⟩ }
  else .refused .secondReceive

/-- Bytes arrive on the line (42_bus_transport.md R134). A pending `RECEIVE` takes them until it has `len`, and then completes; with
none pending the block does not see them (log entry 3). -/
def State.deliver (s : State) (bytes : List Byte) : State :=
  match s.rxOp with
  | some r =>
    let got := (r.got ++ bytes).take r.len
    if got.length = r.len then s.completeReceive r.caller got
    else { s with rxOp := some { r with got := got } }
  | none => s

/-- The receive window ends: whatever was received is returned (42_bus_transport.md R133). -/
def State.rxTimeout (s : State) : Out :=
  match s.rxOp with
  | some r => .next (s.completeReceive r.caller r.got)
  | none => .refused (.eventNotEnabled "receive time-out")

/-- An external use of the transport is offered only while the scheduler task does not live (42_bus_transport.md R125, U6). -/
def State.benchMay (s : State) (k : Out) : Out := if s.taskAlive then .refused .schedulerOwnsBus else k

/-- An event's effect, where its enabling condition holds (60_exceptions.md R205). -/
def whenEnabled (enabled : Bool) (event : String) (k : Out) : Out :=
  if enabled then k else .refused (.eventNotEnabled event)

end Sys2Proof.Machine
end

