-- ==== Sys2Proof/Machine/Pure.lean ====
section
/-! DEFINITION. The meanings of the pure operations: CRC16, BUILD, PARSE and the test bench's SYNTH (40_crc.md, 41_frame_codec.md).
They write no state of 10_state.md; their result goes to the result port. -/

namespace Sys2Proof.Machine

/-- `CRC16` (40_crc.md R102): no errors. -/
def execCrc16 (bytes : List Byte) (s : State) : Out := .next (s.ret (.crc (crc16 bytes)))

/-- `BUILD` (41_frame_codec.md R110). -/
def execBuild (address : Byte) (startReg regCount : U16) (cap : Nat) (s : State) : Out :=
  .next (s.retExcept .frame (build address startReg regCount cap))

/-- `PARSE` (41_frame_codec.md R111). -/
def execParse (frame : List Byte) (expectedAddress : Byte) (expectedCount : U16) (s : State) : Out :=
  .next (s.retExcept .values (parse frame expectedAddress expectedCount))

/-- `SYNTH` (41_frame_codec.md R117), under its precondition. -/
def execSynth (address : Byte) (regCount : Nat) (values : List U16) (s : State) : Out :=
  if values.length = regCount ∧ regCount ≤ 127 then .next (s.ret (.frame (synth address regCount values)))
  else .refused .synthPrecondition

end Sys2Proof.Machine
end

