-- ==== Sys2Proof/Machine/Registry.lean ====
section
/-! DEFINITION. The meanings of the Slave Registry's operations: REGISTER, UNREGISTER, SNAPSHOT, COUNT (43_registry.md). -/

namespace Sys2Proof.Machine

/-- The slot REGISTER writes, every field of it (R150). -/
def freshSlot (config : SlaveConfig) (now : U32) : SlaveState where
  cfg := config
  lastPollTick := seedTick now config
  inUse := true
  snap := {
    address := config.address
    registerStart := config.registerStart
    registerCount := config.registerCount
    values := Vector.replicate Config.SNAP_CAP 0
    valuesLen := min config.registerCount.toNat Config.SNAP_CAP
    timestampMs := 0
    lastError := .ok }

/-- `REGISTER` (R150, R151): the lowest free slot, nothing validated. The initialisation of the snapshot takes the registry
lock (R157), which is free at every instant between events (log entry 12). -/
def execRegister (config : SlaveConfig) (s : State) : Out :=
  match s.firstFree with
  | none => .next (s.retErr .errFull)
  | some i =>
    if s.regLock = .free then
      .next ({ s.setSlot i (freshSlot config (tickMs s.time)) with slaveCount := s.slaveCount + 1 }.ret (.slotIndex i))
    else .next (s.retErr .errLockTimeout)

/-- `UNREGISTER` (R152): frees the slot and clears nothing else; the slot whose poll is in flight is refused (R153). -/
def execUnregister (slotIndex : Int) (s : State) : Out :=
  match s.usedSlot slotIndex with
  | none => .next (s.retErr .errNotFound)
  | some i =>
    if s.pollsSlot i then .refused .slotInFlight
    else .next ({ s.setSlot i { s.slot i with inUse := false } with slaveCount := s.slaveCount - 1 }.ret .ok)

/-- `SNAPSHOT` (R154): one slot's snapshot, whole; range and use first, then the lock (60_exceptions.md R208). -/
def execSnapshot (slotIndex : Int) (s : State) : Out :=
  match s.usedSlot slotIndex with
  | none => .next (s.retErr .errNotFound)
  | some i =>
    if s.regLock = .free then .next (s.ret (.snapshot (s.slot i).snap.view)) else .next (s.retErr .errLockTimeout)

/-- `COUNT` (R156): takes no lock. -/
def execCount (s : State) : Out := .next (s.ret (.count s.slaveCount))

end Sys2Proof.Machine
end

