-- ==== Sys2Proof/Machine/Scheduler.lean ====
section
/-! DEFINITION. The meanings of the Poll Scheduler's rows: START, STOP, WAKE, SCAN_STEP, POLL, SLEEP (44_scheduler.md). -/

namespace Sys2Proof.Machine

/-- `START` (R165): a second task is never created. -/
def execStart (s : State) : Out :=
  if s.taskAlive then .next { s with running := true }
  else .next { s with running := true, taskAlive := true, schedPhase := .sleeping, wakeAt := s.time }

/-- `STOP` (R166): only the flag; `WAKE` observes it. -/
def execStop (s : State) : Out := .next { s with running := false }

/-- `WAKE` (R168): the only place `running` is read. -/
def execWake (s : State) : Out :=
  whenEnabled s.wakeEnabled "WAKE" <|
    if s.running then .next { s with schedPhase := .scanning, scanI := 0 }
    else .next { s with taskAlive := false, schedPhase := .stopped }

/-- A slot found due: the transaction begins and latches the slot, its configuration and the tick (R172). -/
def State.beginPoll (s : State) (i : Fin Config.MAX_SLAVES) (now : U32) : State :=
  { s with
    schedPhase := .inPoll
    poll := { s.poll with slot := i, cfg := (s.slot i).cfg, now := now, step := .start } }

/-- `SCAN_STEP` (R169): examines slot `scan_i`. -/
def execScanStep (s : State) : Out :=
  if h : s.scanI.val < 32 then
    let i : Fin Config.MAX_SLAVES := ⟨s.scanI.val, h⟩
    let now := tickMs s.time
    whenEnabled s.scanStepEnabled "SCAN_STEP" <|
      if (s.slot i).inUse && isDue now (s.slot i).lastPollTick (s.slot i).cfg then .next (s.beginPoll i now)
      else .next { s with scanI := i.succ }
  else .refused (.eventNotEnabled "SCAN_STEP")

/-- Steps 1, 2, 3 and the issue of TRANSMIT (R173, R174, R175, R176). -/
def State.pollStart (s : State) : Out :=
  match build s.poll.cfg.address s.poll.cfg.registerStart s.poll.cfg.registerCount Config.TX_CAP with
  | .error e => .next (s.failPoll e)
  | .ok frame =>
    { s with
      poll := { s.poll with
        txbuf := frame
        expectedLen := expectedLen s.poll.cfg
        timeoutMs := timeoutMs s.baud (expectedLen s.poll.cfg)
        step := .waitBus } }.issueTransmit .scheduler frame

/-- Step 4, second half: at the grant instant the RECEIVE is issued (R177, R178). -/
def State.pollReceive (s : State) : Out :=
  (s.setStep .waitRx).issueReceive .scheduler s.poll.expectedLen s.poll.timeoutMs

/-- The rest of step 4, then steps 5 and 6 (R180, R181, R182), and the end of the transaction (R184). -/
def State.pollFinish (s : State) : State :=
  if s.poll.rxbuf.length < s.poll.expectedLen then s.failPoll .errIoTimeout
  else
    match parse s.poll.rxbuf s.poll.cfg.address s.poll.cfg.registerCount with
    | .error e => s.failPoll e
    | .ok vals => (s.publish s.poll.slot vals s.poll.cfg.registerCount.toNat).endPoll

/-- `POLL` (R172): the next step of the transaction in flight that takes no time; while it waits for the bus or for the line
there is none. -/
def execPoll (s : State) : Out :=
  whenEnabled s.pollEnabled "POLL" <|
    match s.poll.step with
    | .start => s.pollStart
    | .granted => s.pollReceive
    | .received => .next s.pollFinish
    | .waitBus | .waitRx => .refused (.eventNotEnabled "POLL")

/-- `SLEEP` (R183): the next WAKE is one tick after the end of this scan. -/
def execSleep (s : State) : Out :=
  whenEnabled s.sleepEnabled "SLEEP" (.next { s with schedPhase := .sleeping, wakeAt := s.time + Config.TICK_MS * 1000 })

end Sys2Proof.Machine
end

