-- ==== Sys2Proof/WellFormed.lean ====
section
/-! DEFINITION. Which terms of Instr are instructions of the spec: the two frame formats carry the CRC of their own bytes
(30_encoding.md R75, R76), a response carries whole words, and SYNTH has a precondition (41_frame_codec.md R117). -/

namespace Sys2Proof

/-- A request frame: its CRC is the CRC16 of bytes 0 to 5 (R75). -/
def req8Ok (address : Byte) (startReg regCount crc : U16) : Bool :=
  crc == Machine.crc16 (Machine.req8Header address startReg regCount)

/-- A response frame: `byteCount` counts whole words and fits its byte, so it is at most 254, and the CRC is that of the
bytes before it (R76). -/
def rspvOk (address : Byte) (data : List Byte) (crc : U16) : Bool :=
  data.length % 2 == 0 && decide (data.length ≤ 254) && crc == Machine.crc16 (Machine.rspvHeader address data)

/-- The precondition of SYNTH: `len(values) = count, 0 <= count <= 127` (R117). -/
def synthOk (regCount : Nat) (values : List U16) : Bool :=
  decide (values.length = regCount) && decide (regCount ≤ 127)

/-- The documented ranges of a configuration (00_scope.md R6, 10_state.md R29). They are no check of any operation: REGISTER accepts
every configuration (43_registry.md R151, U10). -/
def SlaveConfig.inDocumentedRange (cfg : SlaveConfig) : Bool :=
  decide (Config.ADDR_MIN ≤ cfg.address ∧ cfg.address ≤ Config.ADDR_MAX
    ∧ Config.COUNT_MIN ≤ cfg.registerCount ∧ cfg.registerCount ≤ Config.COUNT_MAX)

/-- Well-formed instructions. Every operand of the eleven operations is in range by its type (R79). -/
def Instr.wf : Instr → Bool
  | .req8 a s c crc => req8Ok a s c crc
  | .rspv a d crc => rspvOk a d crc
  | .synth _ n vs => synthOk n vs
  | .crc16 _ | .build _ _ _ _ | .parse _ _ _ | .transmit _ | .receive _ _ | .register _ | .unregister _ | .snapshot _
  | .count | .start | .stop | .txDone | .deRelease | .wake | .scanStep | .poll | .sleep => true

end Sys2Proof
end

