-- ==== Sys2Proof/Decode.lean ====
section
/-! DEFINITION. The decoder and, after it, the encoder (30_encoding.md R75, R76, R79). Decoding is total and rejects by name. -/

namespace Sys2Proof

/-- Why a port word is no instruction. -/
inductive DecodeError where
  /-- Command codes 0x0 and 0xC to 0xF (30_encoding.md R83). -/
  | reservedCommand (code : BitVec 4)
  /-- Not 8 bytes with function byte 0x03 (R75). -/
  | notRequestFrame
  /-- Not a header with function byte 0x03, then as many data bytes as the header counts, then two bytes (R76). -/
  | notResponseFrame
  deriving DecidableEq, Repr

/-- The command codes of R79; a command reads only the ports its row names. -/
def decodeCommand (code : BitVec 4) (p : OperandPorts) : Except DecodeError Instr :=
  match code.toNat with
  | 0x1 => .ok (.crc16 p.bytes)
  | 0x2 => .ok (.build p.address p.startReg p.regCount p.cap)
  | 0x3 => .ok (.parse p.bytes p.address p.regCount)
  | 0x4 => .ok (.transmit p.bytes)
  | 0x5 => .ok (.receive p.len p.timeoutMs)
  | 0x6 => .ok (.register p.config)
  | 0x7 => .ok (.unregister p.slotIndex)
  | 0x8 => .ok (.snapshot p.slotIndex)
  | 0x9 => .ok .count
  | 0xA => .ok .start
  | 0xB => .ok .stop
  | _ => .error (.reservedCommand code)

/-- A frame on the transmit side is a `REQ8` (R75). -/
def decodeRequest (bytes : List Byte) : Except DecodeError Instr :=
  match bytes with
  | [a, f, sh, sl, ch, cl, lo, hi] =>
    if f = Config.FUNC_READ then
      .ok (.req8 a (Machine.be16 sh sl) (Machine.be16 ch cl) (Machine.le16 lo hi))
    else .error .notRequestFrame
  | _ => .error .notRequestFrame

/-- A frame on the receive side is an `RSPV` (R76). -/
def decodeResponse (bytes : List Byte) : Except DecodeError Instr :=
  match bytes with
  | a :: f :: n :: rest =>
    if f = Config.FUNC_READ then
      match rest.drop n.toNat with
      | [lo, hi] => .ok (.rspv a (rest.take n.toNat) (Machine.le16 lo hi))
      | _ => .error .notResponseFrame
    else .error .notResponseFrame
  | _ => .error .notResponseFrame

/-- The decoder. -/
def decode : PortWord → Except DecodeError Instr
  | .command code ops => decodeCommand code ops
  | .txFrame bytes => decodeRequest bytes
  | .rxLine bytes => decodeResponse bytes

/-- The eight bytes of a request frame (R75). -/
def req8Bytes (address : Byte) (startReg regCount crc : U16) : List Byte :=
  Machine.req8Header address startReg regCount ++ Machine.crcBytes crc

/-- The bytes of a response frame (R76). -/
def rspvBytes (address : Byte) (data : List Byte) (crc : U16) : List Byte :=
  Machine.rspvHeader address data ++ Machine.crcBytes crc

/-- The encoder, from the same tables. An event and the pseudo-operation have no encoding (R79, R87). -/
def encode : Instr → Option PortWord
  | .crc16 bytes => some (.command 0x1 { bytes := bytes })
  | .build a s c cap => some (.command 0x2 { address := a, startReg := s, regCount := c, cap := cap })
  | .parse f a c => some (.command 0x3 { bytes := f, address := a, regCount := c })
  | .transmit f => some (.command 0x4 { bytes := f })
  | .receive l t => some (.command 0x5 { len := l, timeoutMs := t })
  | .register cfg => some (.command 0x6 { config := cfg })
  | .unregister i => some (.command 0x7 { slotIndex := i })
  | .snapshot i => some (.command 0x8 { slotIndex := i })
  | .count => some (.command 0x9 {})
  | .start => some (.command 0xA {})
  | .stop => some (.command 0xB {})
  | .req8 a s c crc => some (.txFrame (req8Bytes a s c crc))
  | .rspv a d crc => some (.rxLine (rspvBytes a d crc))
  | .txDone | .deRelease | .wake | .scanStep | .poll | .sleep => none
  | .synth _ _ _ => none

/-- The `n` bytes of a number, most significant first: frames are numbered with byte 0 on top (R75). -/
def bytesOfNat : Nat → Nat → List Byte
  | 0, _ => []
  | n + 1, w => BitVec.ofNat 8 (w / 256 ^ n) :: bytesOfNat n w

/-- The port word a table row's bits stand for. A `CMD` row has 4 bits, in one byte, its operand ports undriven; `REQ8` has 64;
`RSPV` has the 24 bits of its header, followed by zero data and CRC bytes. -/
def tablePortWord (nbits w : Nat) : Option PortWord :=
  if nbits ≤ 8 then some (.command (BitVec.ofNat 4 w) {})
  else if nbits = 64 then some (.txFrame (bytesOfNat 8 w))
  else if nbits = 24 then some (.rxLine (bytesOfNat 3 w ++ List.replicate (w % 256 + 2) 0))
  else none

/-- What the decoder reads from an instruction whose bits are `w`, numbered as the opcode table numbers them. -/
def decodeTableWord (nbits w : Nat) : Option Instr :=
  match tablePortWord nbits w with
  | some p => (decode p).toOption
  | none => none

end Sys2Proof
end

