-- ==== Sys2Proof/Machine/Transport.lean ====
section
/-! DEFINITION. The meanings of the Bus Transport's rows: TRANSMIT, RECEIVE, the two frame formats on the wire, TX_DONE and
DE_RELEASE (42_bus_transport.md). -/

namespace Sys2Proof.Machine

/-- `TRANSMIT` from a test bench in the scheduler's place (R125, R128). -/
def execTransmit (frame : List Byte) (s : State) : Out := s.benchMay (s.issueTransmit .bench frame)

/-- `RECEIVE` from a test bench in the scheduler's place (R125, R133). -/
def execReceive (len timeoutMs : Nat) (s : State) : Out := s.benchMay (s.issueReceive .bench len timeoutMs)

/-- `REQ8`: the request frame (30_encoding.md R75) put on the wire, which happens as for TRANSMIT of its eight bytes; the
transport does not inspect the CRC (R128). Log entry 10. -/
def execReq8 (address : Byte) (startReg regCount crc : U16) (s : State) : Out :=
  s.benchMay (s.issueTransmit .bench (req8Bytes address startReg regCount crc))

/-- `RSPV`: the response frame (30_encoding.md R76) taken off the wire: its bytes answer the pending RECEIVE (R134). Log
entry 10. -/
def execRspv (address : Byte) (data : List Byte) (crc : U16) (s : State) : Out :=
  .next (s.deliver (rspvBytes address data crc))

/-- `TX_DONE` (R130): the last character has ended; nothing else changes. -/
def execTxDone (s : State) : Out := whenEnabled s.txDoneEnabled "TX_DONE" (.next { s with tphase := .guardBand })

/-- The timer fires: DE low, the timer disarmed, the bus free (R131). -/
def State.releaseDe (s : State) : State :=
  { s with de := false, deLog := s.deLog ++ [(s.time, false)], deTimer := { s.deTimer with armed := false }, tphase := .idle }

/-- `DE_RELEASE` (R131): the release, then the grant of a waiting TRANSMIT at this same instant. -/
def execDeRelease (s : State) : Out :=
  whenEnabled s.deReleaseEnabled "DE_RELEASE" <|
    match s.busWait with
    | some w => .next ({ s.releaseDe with busWait := none }.grant w.caller w.frame)
    | none => .next s.releaseDe

end Sys2Proof.Machine
end

