-- ==== Sys2Proof/Machine/Dispatch.lean ====
section
/-! DEFINITION. The dispatch: one arm per row of spec/opcode_table.json. -/

namespace Sys2Proof.Machine

def exec (i : Instr) (s : State) : Host.Outcome State Fault Refusal :=
  match i with
  | .crc16 bytes => Sys2Proof.Machine.execCrc16 bytes s
  | .build a st n cap => Sys2Proof.Machine.execBuild a st n cap s
  | .parse f a n => Sys2Proof.Machine.execParse f a n s
  | .transmit f => Sys2Proof.Machine.execTransmit f s
  | .receive len ms => Sys2Proof.Machine.execReceive len ms s
  | .register cfg => Sys2Proof.Machine.execRegister cfg s
  | .unregister k => Sys2Proof.Machine.execUnregister k s
  | .snapshot k => Sys2Proof.Machine.execSnapshot k s
  | .count => Sys2Proof.Machine.execCount s
  | .start => Sys2Proof.Machine.execStart s
  | .stop => Sys2Proof.Machine.execStop s
  | .req8 a st n crc => Sys2Proof.Machine.execReq8 a st n crc s
  | .rspv a data crc => Sys2Proof.Machine.execRspv a data crc s
  | .txDone => Sys2Proof.Machine.execTxDone s
  | .deRelease => Sys2Proof.Machine.execDeRelease s
  | .wake => Sys2Proof.Machine.execWake s
  | .scanStep => Sys2Proof.Machine.execScanStep s
  | .poll => Sys2Proof.Machine.execPoll s
  | .sleep => Sys2Proof.Machine.execSleep s
  | .synth a n vs => Sys2Proof.Machine.execSynth a n vs s

end Sys2Proof.Machine
end

