-- ==== Sys2Proof/Machine/Sequencer.lean ====
section
/-! DEFINITION. Which transition comes next (60_exceptions.md R206, R207) and how time passes. -/

namespace Sys2Proof.Machine

/-- The kinds of transition a step can make. -/
inductive Move where
  /-- Class (1): the one-shot timer's events. -/
  | timer (i : Instr)
  /-- Class (2): a bus wait ends. -/
  | busWaitTimeout
  /-- Class (2): a receive window ends. -/
  | rxTimeout
  /-- Class (3): the outside makes its next move, the head of `inputs`. -/
  | input (x : Input) (rest : List Input)
  /-- Class (3): the scheduler makes its next move. -/
  | internal (i : Instr)
  /-- Nothing is enabled at this instant: time passes. -/
  | advance
  deriving DecidableEq, Repr

/-- The head of `inputs`, once its instant has come. -/
def State.dueInput (s : State) : Option (Input × List Input) :=
  match s.inputs with
  | x :: rest => if x.due ≤ s.time then some (x, rest) else none
  | [] => none

/-- The outside's next move is bytes on the receive line. -/
def Input.isLine (x : Input) : Bool :=
  match x.word with
  | .rxLine _ => true
  | .command _ _ | .txFrame _ => false

/-- The choice among class (3) transitions, which the spec leaves open: an input that is due goes first when it yields to no
more internal transitions or none is enabled (R207). -/
def State.openMove (s : State) : Move :=
  match s.dueInput, s.internalEvent with
  | some (x, rest), none => .input x rest
  | some (x, rest), some i => if x.yields = 0 then .input x rest else .internal i
  | none, some i => .internal i
  | none, none => .advance

/-- The next transition (R207): the timer's events, then time-outs (of two, the bus wait's first: log entry 14), then the rest.
Bytes that arrive at the very instant a receive window ends, ahead of every other input, still belong to it: the completion instant may equal the end of the window
(42_bus_transport.md R133). -/
def State.nextMove (s : State) : Move :=
  if s.txDoneEnabled then .timer .txDone
  else if s.deReleaseEnabled then .timer .deRelease
  else if s.busWaitExpired then .busWaitTimeout
  else if s.rxExpired then
    match s.dueInput with
    | some (x, rest) => if x.isLine then .input x rest else .rxTimeout
    | none => .rxTimeout
  else s.openMove

/-- An internal transition of class (3) goes ahead of the input that is due: the input yields to one less. -/
def State.passInput (s : State) : State :=
  match s.inputs with
  | x :: rest => if x.due ≤ s.time then { s with inputs := { x with yields := x.yields - 1 } :: rest } else s
  | [] => s

/-- The instants at which something happens next: the pending deadlines and the next input (R206). -/
def State.horizon (s : State) : List Nat := s.deadlines ++ (s.inputs.head?.map Input.due).toList

/-- Time passes (R206): up to the nearest instant of the horizon; by a free amount when nothing is pending (log entry 9). -/
def State.advance (s : State) : Out :=
  if s.deadlines.any (· < s.time) then .fault .deadlineMissed
  else
    match s.horizon with
    | t :: ts => .next { s with time := ts.foldl min t }
    | [] => .next { s with time := s.time + Config.idleDelay s.draws, draws := s.draws + 1 }

/-- An input that decodes to no instruction: a reserved command code (30_encoding.md R83) or a frame that the transmit side never
carries (R81) has no meaning; any bytes may arrive on the line (42_bus_transport.md R134). -/
def State.rawInput (s : State) (w : PortWord) (e : DecodeError) : Out :=
  match w, e with
  | .rxLine bytes, _ => .next (s.deliver bytes)
  | _, .reservedCommand code => .refused (.reservedCommand code)
  | _, _ => .refused .notRequestFrame

end Sys2Proof.Machine
end

