-- ==== Sys2Proof/Machine/Step.lean ====
section
/-! DEFINITION. One step: the next transition of the whole block and its environment (20_memory.md R63). -/

namespace Sys2Proof.Machine

/-- The outside's move, already taken off `inputs`: the decoded instruction runs. -/
def runInput (w : PortWord) (s : State) : Out :=
  match decode w with
  | .ok i => exec i s
  | .error e => s.rawInput w e

/-- One step. -/
def step (s : State) : Host.Outcome State Fault Refusal :=
  match s.nextMove with
  | .timer i => exec i s
  | .busWaitTimeout => s.busWaitTimeout
  | .rxTimeout => s.rxTimeout
  | .input x rest => runInput x.word { s with inputs := rest }
  | .internal i => exec i s.passInput
  | .advance => s.advance

/-- `s` with that table word as the outside's very next move: an input due at this instant that yields to nothing. The next step
runs it unless a timer event or a time-out fires at this instant, as at reset none does (60_exceptions.md R207). -/
def State.withFetchWord (s : State) (nbits w : Nat) : State :=
  match tablePortWord nbits w with
  | some p => { s with inputs := ⟨s.time, 0, p⟩ :: s.inputs }
  | none => s

end Sys2Proof.Machine
end

