-- ==== Sys2Proof/Safety.lean ====
section
/-! DEFINITION. What counts as a safe state: the invariants of 10_state.md R26, R32, R35, R37 and 42_bus_transport.md R132, R136, and the
part of a state that the spec leaves unspecified (R42). -/

namespace Sys2Proof.Machine

/-- The transport is coherent and no deadline of its own is missed (10_state.md R26; 60_exceptions.md R206). -/
structure State.TransportOk (s : State) : Prop where
  /-- The timer is armed exactly while the bus is owned (R26). -/
  armed : s.deTimer.armed = true ↔ s.tphase ≠ .idle
  /-- DE is asserted exactly while the timer is armed (R26). -/
  level : s.de = s.deTimer.armed
  /-- The last character ends in the future and before the release. -/
  txEnd : s.tphase = .transmitting → s.time ≤ s.txDataEnd ∧ s.txDataEnd < s.deTimer.deadline
  release : s.deTimer.armed = true → s.time ≤ s.deTimer.deadline
  /-- Only an owned bus is waited for (R37; 42_bus_transport.md R128). -/
  wait : ∀ w, s.busWait = some w → s.tphase ≠ .idle ∧ s.time ≤ w.deadline
  /-- A pending receive is short of its length, and the length fits the buffer (42_bus_transport.md R133). -/
  window : ∀ r, s.rxOp = some r → s.time ≤ r.deadline ∧ r.got.length < r.len ∧ r.len ≤ Config.RX_CAP

/-- The two entries of `de_log` that a granted transmission makes (42_bus_transport.md R136). -/
def deWindow (b : Baud) (e : Nat × List Byte) : List (Nat × Bool) :=
  [(e.1, true), (e.1 + txTimeUs b e.2.length, false)]

/-- The output logs: one DE window per transmitted frame, windows that do not overlap (42_bus_transport.md R132, R136). -/
structure State.WindowsOk (s : State) : Prop where
  /-- `de_log`, with the release still to come, is the list of the windows of `tx_stream`. -/
  log : s.deLog ++ (if s.deTimer.armed then [(s.deTimer.deadline, false)] else []) = s.txStream.flatMap (deWindow s.baud)
  /-- Of two entries of `tx_stream` the later begins after the earlier's window. -/
  apart : s.txStream.Pairwise fun a b => a.1 + txTimeUs s.baud a.2.length ≤ b.1
  /-- Every window ends by now, or by the release still to come. -/
  ended : ∀ e ∈ s.txStream, e.1 + txTimeUs s.baud e.2.length ≤ if s.deTimer.armed then s.deTimer.deadline else s.time

/-- The scheduler is coherent (10_state.md R35, R36, R37; 43_registry.md R153). -/
structure State.SchedulerOk (s : State) : Prop where
  alive : s.taskAlive = true ↔ s.schedPhase ≠ .stopped
  wake : s.schedPhase = .sleeping → s.time ≤ s.wakeAt
  /-- The slot of the poll in flight is in use, and the latched configuration is still the slot's (R36, 20_memory.md R70). -/
  inFlight : s.schedPhase = .inPoll → (s.slot s.poll.slot).inUse = true ∧ (s.slot s.poll.slot).cfg = s.poll.cfg
  /-- The scheduler waits for the bus exactly in `WaitBus` (R36, R37). -/
  waiting : (∃ w, s.busWait = some w ∧ w.caller = .scheduler) ↔ s.schedPhase = .inPoll ∧ s.poll.step = .waitBus
  /-- The scheduler reads exactly in `WaitRx` (R36, R37). -/
  reading : (∃ r, s.rxOp = some r ∧ r.caller = .scheduler) ↔ s.schedPhase = .inPoll ∧ s.poll.step = .waitRx
  /-- What the latch holds once the transaction has begun (44_scheduler.md R173, R174, R175). -/
  latched : s.schedPhase = .inPoll → s.poll.step ≠ .start →
    s.poll.expectedLen = expectedLen s.poll.cfg ∧ s.poll.timeoutMs = timeoutMs s.baud (expectedLen s.poll.cfg)
      ∧ build s.poll.cfg.address s.poll.cfg.registerStart s.poll.cfg.registerCount Config.TX_CAP = .ok s.poll.txbuf

/-- The registry is coherent (10_state.md R32, R33, R34). -/
structure State.RegistryOk (s : State) : Prop where
  /-- `slaveCount` is the number of slots in use (R33). -/
  count : s.slaveCount = (List.finRange Config.MAX_SLAVES).countP fun i => (s.slot i).inUse
  /-- The snapshot names the window it holds (R32). -/
  mirror : ∀ i, (s.slot i).inUse = true → (s.slot i).snap.address = (s.slot i).cfg.address
    ∧ (s.slot i).snap.registerStart = (s.slot i).cfg.registerStart
    ∧ (s.slot i).snap.registerCount = (s.slot i).cfg.registerCount
  /-- `valuesLen` is `min(registerCount, 64)` (R31). -/
  capacity : ∀ i, (s.slot i).inUse = true → (s.slot i).snap.valuesLen = min (s.slot i).cfg.registerCount.toNat 64
  /-- The lock is free between events (R34). -/
  lock : s.regLock = .free

/-- Everything that holds between transitions. -/
structure State.Ok (s : State) : Prop where
  transport : s.TransportOk
  windows : s.WindowsOk
  scheduler : s.SchedulerOk
  registry : s.RegistryOk

/-- The poll latch with what its stage has not written yet put to its reset value: steps 1 to 3 write the request, the length and
the time-out (44_scheduler.md R173 to R175), the completion of the receive writes the bytes (R179). -/
def PollLatch.forget (p : PollLatch) : PollLatch :=
  { p with
    txbuf := if p.step = .start then PollLatch.blank.txbuf else p.txbuf
    expectedLen := if p.step = .start then PollLatch.blank.expectedLen else p.expectedLen
    timeoutMs := if p.step = .start then PollLatch.blank.timeoutMs else p.timeoutMs
    rxbuf := if p.step = .received then p.rxbuf else PollLatch.blank.rxbuf }

/-- `s` with all that R42 and 93_implementation_defined.md U3 leave unspecified put to its reset value: the transport's instants
outside their phases, the contents of free slots, the scheduler's scan and poll registers outside their phases and stages. -/
def State.forget (s : State) : State :=
  { s with
    txDataEnd := if s.tphase = .transmitting then s.txDataEnd else 0
    deTimer := if s.deTimer.armed then s.deTimer else ⟨false, 0⟩
    slots := s.slots.map fun x => if x.inUse then x else SlaveState.blank
    scanI := if s.schedPhase = .scanning then s.scanI else 0
    wakeAt := if s.schedPhase = .sleeping then s.wakeAt else 0
    poll := if s.schedPhase = .inPoll then s.poll.forget else PollLatch.blank }

/-- `f` on the next state, if there is one. -/
def Out.map (f : State → State) : Out → Out
  | .next s => .next (f s)
  | .fault r => .fault r
  | .refused r => .refused r

/-- No timer event fires and no wait ends at this instant: what the outside does may come next (60_exceptions.md R207). -/
def State.calm (s : State) : Bool :=
  !s.txDoneEnabled && !s.deReleaseEnabled && !s.busWaitExpired && !s.rxExpired

/-- `quiescent` (60_exceptions.md R221). -/
def State.quiescent (s : State) : Bool :=
  s.schedPhase == .stopped && s.tphase == .idle && s.busWait == none && s.rxOp == none

end Sys2Proof.Machine
end

