-- ==== Sys2Proof/Certificates/Slice0/Obligations.lean ====
section
/-! DEFINITION. The statements for the provers, from the numbered rules of spec/. Those whose conclusion is `exec i s = .next t` say
that the instruction completes, and their `t` is the frame: every field not named keeps its value. -/

open Sys2Proof Sys2Proof.Machine

/- ---- CRC Engine ---- -/

/-- R100: the whole rule, with its examples. -/
def Obligations.CrcBitShiftsAndFolds : Prop :=
  (∀ c : U16, c.getLsbD 0 = true → crcBit c = (c >>> 1) ^^^ 0xA001)
  ∧ (∀ c : U16, c.getLsbD 0 = false → crcBit c = c >>> 1)
  ∧ (∀ c : U16, (crcBit c).getLsbD 15 = c.getLsbD 0)
  ∧ crcBit 0xFFFE = 0x7FFF ∧ crcBit 0x7FFF = 0x9FFE ∧ crcBit 0x0001 = 0xA001 ∧ crcBit 0x0000 = 0x0000

/-- R101: the whole rule: eight applications of `crc_bit` after the exclusive or, which leaves bits 15:8 alone; with its examples
and the intermediate values of the first. -/
def Obligations.CrcByteIsEightBits : Prop :=
  (∀ (c : U16) (b : Byte), crcByte c b = crcBit^[8] (c ^^^ b.setWidth 16) ∧ hiByte (c ^^^ b.setWidth 16) = hiByte c)
  ∧ (0xFFFF : U16) ^^^ (0x01 : Byte).setWidth 16 = 0xFFFE
  ∧ (List.range 8).map (fun k => crcBit^[k + 1] 0xFFFE) = [0x7FFF, 0x9FFE, 0x4FFF, 0x87FE, 0x43FF, 0x81FE, 0x40FF, 0x807E]
  ∧ crcByte 0xFFFF 0x01 = 0x807E ∧ crcByte 0xFFFF 0x00 = 0x40BF ∧ crcByte 0xFFFF 0xFF = 0x00FF ∧ crcByte 0xFFFF 0x80 = 0xE0BE

/-- R102: CRC16 completes in every state, returns the running value after the last byte, and writes no state. -/
def Obligations.Crc16ReturnsRunningCrc : Prop :=
  (∀ (bytes : List Byte) (s : State),
    exec (.crc16 bytes) s = .next { s with result := some (.crc (bytes.foldl crcByte 0xFFFF)) })
  ∧ [0x01, 0x03, 0x00, 0x00, 0x00, 0x06].foldl crcByte 0xFFFF = 0xC8C5

/-- R104 (a) and (b): a CRC may be consumed as the bytes arrive; (d), first half: each byte's treatment is a bijection. -/
def Obligations.CrcComposesAndIsBijective : Prop :=
  (∀ x y : List Byte, crc16 (x ++ y) = y.foldl crcByte (crc16 x))
  ∧ crc16 [] = 0xFFFF
  ∧ Function.Bijective crcBit
  ∧ ∀ b : Byte, Function.Bijective fun c => crcByte c b

/-- R104 (c), and that the two forms of the test accept exactly the same frames (R103): the CRC of a message followed by two bytes
is zero exactly when they are its CRC, low byte first. -/
def Obligations.CrcResidueIsZero : Prop :=
  ∀ (x : List Byte) (lo hi : Byte), crc16 (x ++ [lo, hi]) = 0 ↔ crc16 x = le16 lo hi

/-- R104 (d): two frames of equal length that differ in exactly one byte never have equal CRCs. -/
def Obligations.CrcSeesEverySingleByte : Prop :=
  ∀ (x y : List Byte) (b b' : Byte), b ≠ b' → crc16 (x ++ b :: y) ≠ crc16 (x ++ b' :: y)

/- ---- Frame Codec ---- -/

/-- R110: BUILD completes in every state with ErrBuild exactly when the capacity is below 8, and else with the eight bytes of R75. -/
def Obligations.BuildReturnsRequestFrame : Prop :=
  ∀ (a : Byte) (st n : U16) (cap : Nat) (s : State),
    let h : List Byte := [a, 0x03, st.extractLsb' 8 8, st.extractLsb' 0 8, n.extractLsb' 8 8, n.extractLsb' 0 8]
    let crc := crc16 h
    exec (.build a st n cap) s = .next { s with
      result := some (if cap < 8 then .err .errBuild else .frame (h ++ [crc.extractLsb' 0 8, crc.extractLsb' 8 8])) }

/-- R103, the property of every frame that BUILD builds. -/
def Obligations.RequestCarriesItsCrc : Prop :=
  ∀ (a : Byte) (st n : U16) (cap : Nat) (f : List Byte), build a st n cap = .ok f →
    f.length = 8 ∧ crc16 (f.take 6) = le16 (f.getD 6 0) (f.getD 7 0)
      ∧ be16 (f.getD 2 0) (f.getD 3 0) = st ∧ be16 (f.getD 4 0) (f.getD 5 0) = n

/-- R111, R112: PARSE completes in every state; the first failing check decides. -/
def Obligations.ParseReportsFirstFailingCheck : Prop :=
  ∀ (f : List Byte) (a : Byte) (n : U16) (s : State),
    let bc := (f.getD 2 0).toNat
    exec (.parse f a n) s = .next { s with
      result := some (
        if f.length < 5 then .err .errShortFrame
        else if f.getD 0 0 ≠ a ∨ f.getD 1 0 ≠ 0x03 then .err .errAddressOrFunctionMismatch
        else if bc ≠ 2 * n.toNat then .err .errByteCountMismatch
        else if f.length < 5 + bc then .err .errShortFrame
        else if (crc16 (f.take (3 + bc))).toNat ≠ (f.getD (3 + bc) 0).toNat + 256 * (f.getD (4 + bc) 0).toNat then
          .err .errCrcMismatch
        else if n.toNat > 64 then .err .errTooManyRegisters
        else .values ((List.range n.toNat).map fun k =>
          BitVec.ofNat 16 (256 * (f.getD (3 + 2 * k) 0).toNat + (f.getD (4 + 2 * k) 0).toNat))) }

/-- R116: PARSE of SYNTH returns the values, for every address, count 0..64 and sequence of that length. -/
def Obligations.ParseOfSynthReturnsValues : Prop :=
  ∀ (a : Byte) (n : U16) (vs : List U16), n.toNat ≤ 64 → vs.length = n.toNat →
    parse (synth a n.toNat vs) a n = .ok vs

/-- R118: a single changed byte of an accepted frame of exactly `5 + 2 * count` bytes makes PARSE fail, with the error its position
decides. -/
def Obligations.SingleByteCorruptionByPosition : Prop :=
  ∀ (f : List Byte) (a : Byte) (n : U16) (vs : List U16), parse f a n = .ok vs → f.length = 5 + 2 * n.toNat →
    ∀ (k : Nat) (b : Byte), k < f.length → b ≠ f.getD k 0 →
      parse (f.set k b) a n = .error (
        if k < 2 then .errAddressOrFunctionMismatch else if k = 2 then .errByteCountMismatch else .errCrcMismatch)

/-- R114: bytes after the CRC are ignored, and a count of 128 or more always fails the byte-count check or one before it. -/
def Obligations.ParseIgnoresTrailingBytes : Prop :=
  (∀ (f g : List Byte) (a : Byte) (n : U16) (vs : List U16), parse f a n = .ok vs → parse (f ++ g) a n = .ok vs)
  ∧ ∀ (f : List Byte) (a : Byte) (n : U16), 128 ≤ n.toNat →
      parse f a n = .error .errShortFrame ∨ parse f a n = .error .errAddressOrFunctionMismatch
        ∨ parse f a n = .error .errByteCountMismatch

/-- R181, R173, R191: PARSE of a frame of at least the expected length never reports a short frame, and BUILD with TX_CAP = 8 never
fails; so from a state with a coherent scheduler no POLL, and no step at all, records ErrShortFrame or ErrBuild on a slot. -/
def Obligations.PollNeverSeesShortFrameOrBuildError : Prop :=
  (∀ (f : List Byte) (cfg : SlaveConfig), expectedLen cfg ≤ f.length →
    parse f cfg.address cfg.registerCount ≠ .error .errShortFrame)
  ∧ (∀ cfg : SlaveConfig, ∃ f, build cfg.address cfg.registerStart cfg.registerCount Config.TX_CAP = .ok f)
  ∧ ∀ s t : State, s.SchedulerOk → (exec .poll s = .next t ∨ step s = .next t) → ∀ k : Fin 32,
    (t.slot k).snap.lastError = (s.slot k).snap.lastError
      ∨ ((t.slot k).snap.lastError ≠ .errShortFrame ∧ (t.slot k).snap.lastError ≠ .errBuild)

/-- R117: SYNTH completes under its precondition; outside it the model refuses (log entry 16). -/
def Obligations.SynthReturnsResponseFrame : Prop :=
  (∀ (a : Byte) (n : Nat) (vs : List U16) (s : State), vs.length = n → n ≤ 127 →
    let h : List Byte := [a, 0x03, BitVec.ofNat 8 (2 * n)] ++ vs.flatMap fun v => [v.extractLsb' 8 8, v.extractLsb' 0 8]
    let crc := crc16 h
    exec (.synth a n vs) s = .next { s with result := some (.frame (h ++ [crc.extractLsb' 0 8, crc.extractLsb' 8 8])) })
  ∧ ∀ (a : Byte) (n : Nat) (vs : List U16) (s : State), ¬(vs.length = n ∧ n ≤ 127) →
    exec (.synth a n vs) s = .refused .synthPrecondition

/-- 20_memory.md R60, R64; 41_frame_codec.md: the pure operations and the readers change nothing but the result port. -/
def Obligations.PureAndReadersChangeOnlyResult : Prop :=
  ∀ (i : Instr) (s t : State),
    (match i with
      | .crc16 _ | .build _ _ _ _ | .parse _ _ _ | .synth _ _ _ | .snapshot _ | .count => True
      | _ => False) →
    exec i s = .next t → t = { s with result := t.result }

/- ---- Timing formulas ---- -/

/-- R126: the character time, its range, its error, and the table of values. -/
def Obligations.CharTimeFormula : Prop :=
  (∀ b : Baud, charTimeUs b = 10_000_000 / b.rate ∧ 1 ≤ charTimeUs b ∧ charTimeUs b ≤ 10_000_000
    ∧ charTimeUs b * b.rate ≤ 10_000_000 ∧ 10_000_000 < (charTimeUs b + 1) * b.rate)
  ∧ ∀ b : Baud, ∀ p ∈ [(300, 33333), (1200, 8333), (2400, 4166), (4800, 2083), (9600, 1041), (19200, 520), (38400, 260),
      (57600, 173), (115200, 86)], b.rate = p.1 → charTimeUs b = p.2

/-- R175, R250: the response time-out follows the formula, and is what the poll latches; it lies in 1000..5000 ms: the lower clamp
never binds; and where the upper one does. -/
def Obligations.ResponseTimeoutFormula : Prop :=
  ∀ (b : Baud) (cfg : SlaveConfig),
    let c := charTimeUs b
    let n := cfg.registerCount.toNat
    let ms := timeoutMs b (expectedLen cfg)
    let us := (7 * c + 1) / 2 + (5 + 2 * n) * c
    ms = max 20 (min 5000 ((us + 1_000_000) / 1000)) ∧ 1000 ≤ ms ∧ ms ≤ 5000
      ∧ (∀ s t : State, s.schedPhase = .inPoll → s.poll.step = .start → s.poll.cfg = cfg → s.baud = b →
          exec .poll s = .next t → t.poll.timeoutMs = ms)
      ∧ (4_001_000 ≤ us → ms = 5000)
      ∧ (b.rate ≤ 341 → n = 64 → ms = 5000) ∧ (b.rate ≤ 51 → n = 6 → ms = 5000)
      ∧ (b.rate = 300 → (ms = 5000 ↔ 56 ≤ n))
      ∧ (b.rate = 9600 → (n ≤ 64 → ms < 5000) ∧ (n = 1 → ms = 1010) ∧ (n = 6 → ms = 1021) ∧ (n = 64 → ms = 1142))

/- ---- Bus Transport ---- -/

/-- R128, R129: a TRANSMIT issued on an idle bus is granted at once; a request frame is put on the wire in the same way (log
entry 10). -/
def Obligations.TransmitGrantedOnIdleBus : Prop :=
  ∀ (s : State), s.taskAlive = false → s.tphase = .idle →
    let c := 10_000_000 / s.baud.rate
    (∀ f : List Byte, exec (.transmit f) s = .next { s with
      de := true
      deLog := s.deLog ++ [(s.time, true)]
      txStream := s.txStream ++ [(s.time, f)]
      tphase := .transmitting
      txDataEnd := s.time + f.length * c
      deTimer := ⟨true, s.time + (f.length + 3) * c⟩
      result := some .ok })
    ∧ ∀ (a : Byte) (st n crc : U16), exec (.req8 a st n crc) s = .next { s with
      de := true
      deLog := s.deLog ++ [(s.time, true)]
      txStream := s.txStream ++ [(s.time, [a, 0x03, st.extractLsb' 8 8, st.extractLsb' 0 8, n.extractLsb' 8 8,
        n.extractLsb' 0 8, crc.extractLsb' 0 8, crc.extractLsb' 8 8])]
      tphase := .transmitting
      txDataEnd := s.time + 8 * c
      deTimer := ⟨true, s.time + 11 * c⟩
      result := some .ok }

/-- R128: on a busy bus a TRANSMIT waits, and nothing of the transmission in progress changes; a request frame waits in the same way
(log entry 10). A second waiter is refused (U6). While the scheduler task lives U6 offers no such move, and the model refuses it (log
entry 16). -/
def Obligations.BusyTransmitWaits : Prop :=
  ∀ (s : State) (i : Instr) (f : List Byte),
    (i = .transmit f ∨ ∃ (a : Byte) (st n crc : U16), i = .req8 a st n crc ∧ f = [a, 0x03, st.extractLsb' 8 8, st.extractLsb' 0 8,
      n.extractLsb' 8 8, n.extractLsb' 0 8, crc.extractLsb' 0 8, crc.extractLsb' 8 8]) →
    (s.taskAlive = false → s.tphase ≠ .idle → s.busWait = none →
      exec i s = .next { s with busWait := some ⟨s.time, f, .bench⟩ })
    ∧ (s.taskAlive = false → s.tphase ≠ .idle → s.busWait ≠ none → exec i s = .refused .secondWaiter)
    ∧ (s.taskAlive = true → exec i s = .refused .schedulerOwnsBus)

/-- R128, R192: the bounded wait ends at 200 ms in ErrBusBusy, returned to an external caller or recorded on the polled slot, and
the transmission in progress is not disturbed. Where a receive window ends at the same instant, that the bus wait's end comes first
is the model's reading of R207 (log entry 14). -/
def Obligations.BusWaitEndsInBusBusy : Prop :=
  ∀ (s : State) (w : BusWait), s.busWait = some w → s.time = w.issuedAt + 200_000 →
    s.txDoneEnabled = false → s.deReleaseEnabled = false →
    (w.caller = .bench → step s = .next { s with busWait := none, result := some (.err .errBusBusy) })
    ∧ (w.caller = .scheduler → s.regLock = .free → ∃ t, step s = .next t
        ∧ t = { s with busWait := none, slots := t.slots, scanI := s.poll.slot.succ, schedPhase := .scanning }
        ∧ t.slot s.poll.slot = { s.slot s.poll.slot with
            lastPollTick := s.poll.now, snap := { (s.slot s.poll.slot).snap with lastError := .errBusBusy } }
        ∧ ∀ j, j ≠ s.poll.slot → t.slot j = s.slot j)

/-- R130: TX_DONE moves to the guard band and changes nothing else; where it is not enabled it is no move (R205), and the model
refuses it (log entry 16). -/
def Obligations.TxDoneEndsTransmitting : Prop :=
  ∀ s : State,
    (s.tphase = .transmitting → s.time = s.txDataEnd → exec .txDone s = .next { s with tphase := .guardBand })
    ∧ (¬(s.tphase = .transmitting ∧ s.time = s.txDataEnd) → exec .txDone s = .refused (.eventNotEnabled "TX_DONE"))

/-- R131: DE_RELEASE frees the bus, and grants the waiting TRANSMIT at the same instant; the scheduler's goes to the stage `granted` of
log entry 7. Where it is not enabled it is no move (R205), and the model refuses it (log entry 16). -/
def Obligations.DeReleaseFreesBus : Prop :=
  ∀ s : State,
    let c := 10_000_000 / s.baud.rate
    (s.deTimer.armed = true → s.time = s.deTimer.deadline → s.busWait = none →
      exec .deRelease s = .next { s with
        de := false
        deLog := s.deLog ++ [(s.time, false)]
        deTimer := ⟨false, s.deTimer.deadline⟩
        tphase := .idle })
    ∧ (∀ w, s.deTimer.armed = true → s.time = s.deTimer.deadline → s.busWait = some w →
      exec .deRelease s = .next { s with
        de := true
        deLog := s.deLog ++ [(s.time, false), (s.time, true)]
        txStream := s.txStream ++ [(s.time, w.frame)]
        tphase := .transmitting
        txDataEnd := s.time + w.frame.length * c
        deTimer := ⟨true, s.time + (w.frame.length + 3) * c⟩
        busWait := none
        result := if w.caller = .bench then some .ok else s.result
        poll := if w.caller = .scheduler then { s.poll with step := .granted } else s.poll })
    ∧ (¬(s.deTimer.armed = true ∧ s.time = s.deTimer.deadline) →
      exec .deRelease s = .refused (.eventNotEnabled "DE_RELEASE"))

/-- R133, R135: RECEIVE fails for more than 133 bytes, returns no bytes at once when none are wanted, and else is pending. U6: a
second one is refused. While the scheduler task lives U6 offers no such move, and the model refuses it (log entry 16). What a
read of more than 133 bytes does while one is pending is the model's choice (log entry 18) and is not stated. -/
def Obligations.ReceiveIssued : Prop :=
  ∀ (s : State) (len ms : Nat),
    (s.taskAlive = false → 133 < len → s.rxOp = none →
        exec (.receive len ms) s = .next { s with result := some (.err .errAllocation) })
    ∧ (s.taskAlive = false → len ≤ 133 → 0 < len → s.rxOp = none →
        exec (.receive len ms) s = .next { s with rxOp := some ⟨s.time, len, ms, .bench, []⟩ })
    ∧ (s.taskAlive = false → len = 0 → s.rxOp = none →
        exec (.receive len ms) s = .next { s with result := some (.bytes []) })
    ∧ (s.taskAlive = false → len ≤ 133 → s.rxOp ≠ none → exec (.receive len ms) s = .refused .secondReceive)
    ∧ (s.taskAlive = true → exec (.receive len ms) s = .refused .schedulerOwnsBus)

/-- R76, R134, R179: a response frame's bytes answer the pending RECEIVE as soon as they fill it; fewer are kept for it (log entry
2); with none pending nothing changes (log entry 3). That the frame format is an instruction, with this effect, is the model's choice
(log entry 10). `LineBytesAnswerReceive` says the same of all other bytes. -/
def Obligations.ResponseFrameAnswersReceive : Prop :=
  ∀ (s : State) (a : Byte) (data : List Byte) (crc : U16),
    let f : List Byte := [a, 0x03, BitVec.ofNat 8 data.length] ++ data ++ [crc.extractLsb' 0 8, crc.extractLsb' 8 8]
    (∀ r, s.rxOp = some r → r.len ≤ r.got.length + f.length → r.caller = .bench →
      exec (.rspv a data crc) s = .next { s with rxOp := none, result := some (.bytes ((r.got ++ f).take r.len)) })
    ∧ (∀ r, s.rxOp = some r → r.len ≤ r.got.length + f.length → r.caller = .scheduler →
      exec (.rspv a data crc) s = .next { s with
        rxOp := none, poll := { s.poll with rxbuf := (r.got ++ f).take r.len, step := .received } })
    ∧ (∀ r, s.rxOp = some r → r.got.length + f.length < r.len →
      exec (.rspv a data crc) s = .next { s with rxOp := some { r with got := r.got ++ f } })
    ∧ (s.rxOp = none → exec (.rspv a data crc) s = .next s)

/-- R133, R134: whatever bytes come next on the line, a response frame or not, answer the pending RECEIVE as soon as they fill it, and
also when they come at the very instant its window ends (log entries 1, 2, 3). -/
def Obligations.LineBytesAnswerReceive : Prop :=
  ∀ (s : State) (x : Input) (rest : List Input) (bs : List Byte), s.inputs = x :: rest → x.due ≤ s.time → x.word = .rxLine bs →
    s.txDoneEnabled = false → s.deReleaseEnabled = false → s.busWaitExpired = false →
    (x.yields = 0 ∨ s.internalEvent = none ∨ s.rxExpired = true) →
    (∀ r, s.rxOp = some r → r.len ≤ r.got.length + bs.length → r.caller = .bench →
      step s = .next { s with inputs := rest, rxOp := none, result := some (.bytes ((r.got ++ bs).take r.len)) })
    ∧ (∀ r, s.rxOp = some r → r.len ≤ r.got.length + bs.length → r.caller = .scheduler →
      step s = .next { s with
        inputs := rest, rxOp := none, poll := { s.poll with rxbuf := (r.got ++ bs).take r.len, step := .received } })
    ∧ (∀ r, s.rxOp = some r → r.got.length + bs.length < r.len →
      step s = .next { s with inputs := rest, rxOp := some { r with got := r.got ++ bs } })
    ∧ (s.rxOp = none → step s = .next { s with inputs := rest })

/-- R133: at the end of the window a RECEIVE returns whatever was received, which may be less than `len`. -/
def Obligations.ReceiveWindowEnds : Prop :=
  ∀ (s : State) (r : RxOp), s.rxOp = some r → s.time = r.issuedAt + r.timeoutMs * 1000 →
    s.txDoneEnabled = false → s.deReleaseEnabled = false → s.busWaitExpired = false →
    (∀ x rest, s.inputs = x :: rest → x.due ≤ s.time → x.isLine = false) →
    (r.caller = .bench → step s = .next { s with rxOp := none, result := some (.bytes r.got) })
    ∧ (r.caller = .scheduler →
        step s = .next { s with rxOp := none, poll := { s.poll with rxbuf := r.got, step := .received } })

/-- R240: `de` falls only at a DE_RELEASE, and while the timer runs there is no second grant before its deadline. -/
def Obligations.DeFallsOnlyAtRelease : Prop :=
  ∀ s t : State, s.TransportOk → step s = .next t →
    (s.de = true → t.de = false → s.deTimer.armed = true ∧ s.time = s.deTimer.deadline)
    ∧ (s.deTimer.armed = true → t.txStream ≠ s.txStream → s.time = s.deTimer.deadline)

/- ---- Slave Registry ---- -/

/-- R150, R201: REGISTER takes the lowest free slot, writes every field of it, and touches no other slot; a full table is ErrFull. -/
def Obligations.RegisterTakesLowestFreeSlot : Prop :=
  ∀ (s : State) (cfg : SlaveConfig),
    (∀ i : Fin 32, s.regLock = .free → (s.slot i).inUse = false → (∀ j, j < i → (s.slot j).inUse = true) →
      ∃ t, exec (.register cfg) s = .next t
        ∧ t = { s with slots := t.slots, slaveCount := s.slaveCount + 1, result := some (.slotIndex i) }
        ∧ (∀ j, j ≠ i → t.slot j = s.slot j)
        ∧ t.slot i = {
            cfg := cfg
            lastPollTick := BitVec.ofNat 32 (s.time / 1000) - (if cfg.pollIntervalMs = 0 then 1000 else cfg.pollIntervalMs)
            inUse := true
            snap := ⟨cfg.address, cfg.registerStart, cfg.registerCount, Vector.replicate 64 0,
              min cfg.registerCount.toNat 64, 0, .ok⟩ })
    ∧ ((∀ j, (s.slot j).inUse = true) → exec (.register cfg) s = .next { s with result := some (.err .errFull) })

/-- R150: a slot just registered is due whenever it is examined, as long as the sum stays below `2^32`. -/
def Obligations.RegisteredSlotIsDue : Prop :=
  ∀ (s t : State) (cfg : SlaveConfig) (i : Fin 32) (later : Nat), exec (.register cfg) s = .next t →
    t.result = some (.slotIndex i) → s.time ≤ later →
    (effInterval cfg).toNat + (later / 1000 - s.time / 1000) < 2 ^ 32 →
    isDue (tickMs later) (t.slot i).lastPollTick (t.slot i).cfg = true

/-- R152, R153, R202: UNREGISTER frees a used slot and clears nothing else; a free slot or an index outside 0..31 is ErrNotFound;
the slot whose poll is in flight is refused. -/
def Obligations.UnregisterFreesSlot : Prop :=
  ∀ (s : State) (k : Int),
    (∀ i : Fin 32, k = (i.val : Int) → (s.slot i).inUse = true → ¬(s.schedPhase = .inPoll ∧ s.poll.slot = i) →
      ∃ t, exec (.unregister k) s = .next t
        ∧ t = { s with slots := t.slots, slaveCount := s.slaveCount - 1, result := some .ok }
        ∧ t.slot i = { s.slot i with inUse := false } ∧ ∀ j, j ≠ i → t.slot j = s.slot j)
    ∧ ((k < 0 ∨ 31 < k ∨ ∃ i : Fin 32, k = (i.val : Int) ∧ (s.slot i).inUse = false) →
      exec (.unregister k) s = .next { s with result := some (.err .errNotFound) })
    ∧ (∀ i : Fin 32, k = (i.val : Int) → (s.slot i).inUse = true → s.schedPhase = .inPoll → s.poll.slot = i →
      exec (.unregister k) s = .refused .slotInFlight)

/-- R154, R202: SNAPSHOT returns one used slot's record whole and writes nothing; else ErrNotFound. -/
def Obligations.SnapshotReturnsSlotWhole : Prop :=
  ∀ (s : State) (k : Int),
    (∀ i : Fin 32, k = (i.val : Int) → (s.slot i).inUse = true → s.regLock = .free →
      let n := (s.slot i).snap
      exec (.snapshot k) s = .next { s with
        result := some (.snapshot ⟨n.address, n.registerStart, n.registerCount, n.values.toList.take n.valuesLen,
          n.timestampMs, n.lastError⟩) })
    ∧ ((k < 0 ∨ 31 < k ∨ ∃ i : Fin 32, k = (i.val : Int) ∧ (s.slot i).inUse = false) →
      exec (.snapshot k) s = .next { s with result := some (.err .errNotFound) })

/-- R156: COUNT, code 0x9, returns the number of active slots, 0..32, whatever the lock, and changes nothing else; 0 at reset. -/
def Obligations.CountReturnsSlaveCount : Prop :=
  (∀ s : State, exec .count s = .next { s with result := some (.count s.slaveCount) })
  ∧ (∀ s : State, s.RegistryOk → s.slaveCount ≤ 32)
  ∧ exec .count State.reset = .next { State.reset with result := some (.count 0) }
  ∧ decodeTableWord 4 0x9 = some .count

/-- R64, R70, 10_state.md R29: in one step, the configuration of a used slot does not change, and its snapshot and poll tick change
only when the poll in flight is of that slot. -/
def Obligations.UsedSlotChangesOnlyByItsPoll : Prop :=
  ∀ s t : State, s.SchedulerOk → step s = .next t → ∀ k : Fin 32, (s.slot k).inUse = true →
    (t.slot k).cfg = (s.slot k).cfg
    ∧ (((t.slot k).snap ≠ (s.slot k).snap ∨ (t.slot k).lastPollTick ≠ (s.slot k).lastPollTick) →
        s.schedPhase = .inPoll ∧ s.poll.slot = k)

/-- R58, R65: one step leaves a used slot's snapshot as it was, changes its error code alone, or publishes the words of one
accepted response whole; there is no mixture. -/
def Obligations.SnapshotOldOrNew : Prop :=
  ∀ s t : State, step s = .next t → ∀ k : Fin 32, (s.slot k).inUse = true →
    (t.slot k).snap = (s.slot k).snap
    ∨ (∃ e, e ≠ .ok ∧ (t.slot k).snap = { (s.slot k).snap with lastError := e })
    ∨ ∃ vals, parse s.poll.rxbuf s.poll.cfg.address s.poll.cfg.registerCount = .ok vals
        ∧ (t.slot k).snap.view = ⟨(s.slot k).snap.address, (s.slot k).snap.registerStart, (s.slot k).snap.registerCount, vals,
            BitVec.ofNat 32 (s.time / 1000), .ok⟩

/-- R212, R214: a step that is not a move of the outside changes no slot's use or configuration, nor the count, nor `running`. -/
def Obligations.BlockLeavesRegistrationAlone : Prop :=
  ∀ s t : State, (∀ x rest, s.nextMove ≠ .input x rest) → step s = .next t →
    t.slaveCount = s.slaveCount ∧ t.running = s.running
    ∧ ∀ k : Fin 32, (t.slot k).inUse = (s.slot k).inUse ∧ (t.slot k).cfg = (s.slot k).cfg

/- ---- Poll Scheduler ---- -/

/-- R165: START, code 0xA, sets the flag, and creates the task, with its first wake at this instant, only when there is none. -/
def Obligations.StartCreatesOneTask : Prop :=
  ∀ s : State,
    (s.taskAlive = false → exec .start s = .next { s with
      running := true, taskAlive := true, schedPhase := .sleeping, wakeAt := s.time })
    ∧ (s.taskAlive = true → exec .start s = .next { s with running := true })
    ∧ (∀ t, s.taskAlive = false → exec .start s = .next t → t.internalEvent = some .wake)
    ∧ decodeTableWord 4 0xA = some .start

/-- R166: STOP only clears the flag. -/
def Obligations.StopOnlyClearsRunning : Prop :=
  ∀ s : State, exec .stop s = .next { s with running := false }

/-- R168: WAKE exits or starts a scan. Where it is not enabled it is no move (R205), and the model refuses it (log entry 16). -/
def Obligations.WakeExitsOrStartsScan : Prop :=
  ∀ s : State,
    (s.schedPhase = .sleeping → s.time = s.wakeAt → s.running = false →
      exec .wake s = .next { s with taskAlive := false, schedPhase := .stopped })
    ∧ (s.schedPhase = .sleeping → s.time = s.wakeAt → s.running = true →
      exec .wake s = .next { s with schedPhase := .scanning, scanI := 0 })
    ∧ (¬(s.schedPhase = .sleeping ∧ s.time = s.wakeAt) → exec .wake s = .refused (.eventNotEnabled "WAKE"))

/-- R169, R170, R171: SCAN_STEP passes a free slot or one that is not due, and begins the poll of one that is. That the poll's first
actions are a transition of their own is the model's choice (log entry 7). -/
def Obligations.ScanStepExaminesOneSlot : Prop :=
  ∀ (s : State) (i : Fin 32), s.schedPhase = .scanning → s.scanI.val = i.val →
    let x := s.slot i
    let now : U32 := BitVec.ofNat 32 (s.time / 1000)
    let eff : U32 := if x.cfg.pollIntervalMs = 0 then 1000 else x.cfg.pollIntervalMs
    (x.inUse = false → exec .scanStep s = .next { s with scanI := i.succ })
    ∧ (x.inUse = true → (now - x.lastPollTick).toNat < eff.toNat → exec .scanStep s = .next { s with scanI := i.succ })
    ∧ (x.inUse = true → eff.toNat ≤ (now - x.lastPollTick).toNat → exec .scanStep s = .next { s with
        schedPhase := .inPoll, poll := { s.poll with slot := i, cfg := x.cfg, now := now, step := .start } })

/-- R173, R174, R175, R176: the poll builds the request and issues its TRANSMIT, which an idle bus grants at once and a busy bus
makes wait. -/
def Obligations.PollIssuesTransmit : Prop :=
  ∀ s : State, s.schedPhase = .inPoll → s.poll.step = .start →
    let cfg := s.poll.cfg
    let h : List Byte := [cfg.address, 0x03, cfg.registerStart.extractLsb' 8 8, cfg.registerStart.extractLsb' 0 8,
      cfg.registerCount.extractLsb' 8 8, cfg.registerCount.extractLsb' 0 8]
    let f : List Byte := h ++ [(crc16 h).extractLsb' 0 8, (crc16 h).extractLsb' 8 8]
    let c := 10_000_000 / s.baud.rate
    let len := 5 + 2 * cfg.registerCount.toNat
    let ms := max 20 (min 5000 (((7 * c + 1) / 2 + len * c + 1_000_000) / 1000))
    (s.tphase = .idle → exec .poll s = .next { s with
      poll := { s.poll with txbuf := f, expectedLen := len, timeoutMs := ms, step := .granted }
      de := true
      deLog := s.deLog ++ [(s.time, true)]
      txStream := s.txStream ++ [(s.time, f)]
      tphase := .transmitting
      txDataEnd := s.time + 8 * c
      deTimer := ⟨true, s.time + 11 * c⟩ })
    ∧ (s.tphase ≠ .idle → s.busWait = none → exec .poll s = .next { s with
      poll := { s.poll with txbuf := f, expectedLen := len, timeoutMs := ms, step := .waitBus }
      busWait := some ⟨s.time, f, .scheduler⟩ })

/-- R177, R178: at the grant instant the poll issues its RECEIVE; a response longer than the buffer is ErrAllocation, recorded on
the slot, and ends the transaction. The stage `granted` is log entry 7's. That it is ErrAllocation also where a test bench's read is
still pending is the model's choice (log entry 18). -/
def Obligations.PollIssuesReceive : Prop :=
  ∀ s : State, s.schedPhase = .inPoll → s.poll.step = .granted →
    (s.poll.expectedLen ≤ 133 → 0 < s.poll.expectedLen → s.rxOp = none → exec .poll s = .next { s with
      poll := { s.poll with step := .waitRx }
      rxOp := some ⟨s.time, s.poll.expectedLen, s.poll.timeoutMs, .scheduler, []⟩ })
    ∧ (133 < s.poll.expectedLen → s.regLock = .free → ∃ t, exec .poll s = .next t
        ∧ t = { s with
            poll := { s.poll with step := .waitRx }
            slots := t.slots, scanI := s.poll.slot.succ, schedPhase := .scanning }
        ∧ t.slot s.poll.slot = { s.slot s.poll.slot with
            lastPollTick := s.poll.now, snap := { (s.slot s.poll.slot).snap with lastError := .errAllocation } }
        ∧ ∀ j, j ≠ s.poll.slot → t.slot j = s.slot j)

/-- R180, R181, R182, R184: an accepted response is published whole with the tick of this instant, and the transaction ends; no other
slot is touched. -/
def Obligations.PollPublishesAcceptedResponse : Prop :=
  ∀ (s : State) (vals : List U16), s.schedPhase = .inPoll → s.poll.step = .received → s.regLock = .free →
    s.poll.expectedLen ≤ s.poll.rxbuf.length →
    parse s.poll.rxbuf s.poll.cfg.address s.poll.cfg.registerCount = .ok vals →
    let n := s.poll.cfg.registerCount.toNat
    let x := s.slot s.poll.slot
    ∃ t, exec .poll s = .next t
      ∧ t = { s with slots := t.slots, scanI := s.poll.slot.succ, schedPhase := .scanning }
      ∧ (∀ j, j ≠ s.poll.slot → t.slot j = s.slot j)
      ∧ t.slot s.poll.slot = { x with
          lastPollTick := s.poll.now
          snap := { x.snap with
            values := (t.slot s.poll.slot).snap.values
            valuesLen := n
            timestampMs := BitVec.ofNat 32 (s.time / 1000)
            lastError := .ok } }
      ∧ (t.slot s.poll.slot).snap.values.toList = vals ++ x.snap.values.toList.drop n

/-- R180, R181, R184, 60_exceptions.md R194, R209: a short or rejected response is recorded as its code alone, and the transaction
ends. -/
def Obligations.PollRecordsFailure : Prop :=
  ∀ (s : State) (e : ErrCode), s.schedPhase = .inPoll → s.poll.step = .received → s.regLock = .free →
    ((s.poll.rxbuf.length < s.poll.expectedLen ∧ e = .errIoTimeout)
      ∨ (s.poll.expectedLen ≤ s.poll.rxbuf.length
          ∧ parse s.poll.rxbuf s.poll.cfg.address s.poll.cfg.registerCount = .error e)) →
    ∃ t, exec .poll s = .next t
      ∧ t = { s with slots := t.slots, scanI := s.poll.slot.succ, schedPhase := .scanning }
      ∧ t.slot s.poll.slot = { s.slot s.poll.slot with
          lastPollTick := s.poll.now, snap := { (s.slot s.poll.slot).snap with lastError := e } }
      ∧ ∀ j, j ≠ s.poll.slot → t.slot j = s.slot j

/-- R183: SLEEP ends the scan; the next WAKE is 10_000 µs later. It is urgent: no time passes while it is enabled. Where it is not
enabled it is no move (R205), and the model refuses it (log entry 16). -/
def Obligations.SleepEndsScan : Prop :=
  ∀ s : State,
    (s.schedPhase = .scanning → s.scanI.val = 32 →
      exec .sleep s = .next { s with schedPhase := .sleeping, wakeAt := s.time + 10_000 })
    ∧ (¬(s.schedPhase = .scanning ∧ s.scanI.val = 32) → exec .sleep s = .refused (.eventNotEnabled "SLEEP"))
    ∧ (∀ t, s.schedPhase = .scanning → s.scanI.val = 32 → step s = .next t → t.time = s.time)

/- ---- The whole machine ---- -/

/-- R231, and the values of R42: what reset leaves and guarantees. With nothing on the inputs a step only lets time pass, by an
amount that nothing fixes: that it takes the free value `Config.idleDelay` and counts it in `draws` is the model's choice (log entry
9). The values R42 leaves unspecified are not stated. -/
def Obligations.ResetIsQuiescent : Prop :=
  let s := State.reset
  s.time = 0 ∧ s.de = false ∧ s.tphase = .idle ∧ s.deTimer.armed = false ∧ s.busWait = none ∧ s.rxOp = none
  ∧ (∀ i, (s.slot i).inUse = false) ∧ s.slaveCount = 0 ∧ s.regLock = .free ∧ s.running = false ∧ s.taskAlive = false
  ∧ s.schedPhase = .stopped ∧ s.txStream = [] ∧ s.deLog = []
  ∧ s.RegistryOk
  ∧ s.quiescent = true ∧ s.deadlines = [] ∧ s.internalEvent = none
  ∧ step s = .next { s with time := Config.idleDelay 0, draws := 1 }
  ∧ exec .count s = .next { s with result := some (.count 0) }
  ∧ ∀ k : Int, exec (.snapshot k) s = .next { s with result := some (.err .errNotFound) }
      ∧ exec (.unregister k) s = .next { s with result := some (.err .errNotFound) }

/-- The invariants of `State.Ok` hold at reset (R231). -/
def Obligations.InvariantsHoldAtReset : Prop := State.reset.Ok

/-- 10_state.md R26; 42_bus_transport.md R132, R136: from every state in which the transport is coherent and the logs are the windows of
the transmitted frames, one step leads to such a state: one transmission at a time, each with its exact DE window. -/
def Obligations.StepKeepsTransportWindows : Prop :=
  ∀ s t : State, s.TransportOk → s.WindowsOk → step s = .next t → t.TransportOk ∧ t.WindowsOk

/-- 10_state.md R32, R33, R35, R36, R37: one step keeps the scheduler and the registry coherent. -/
def Obligations.StepKeepsSchedulerAndRegistry : Prop :=
  ∀ s t : State, s.SchedulerOk → s.RegistryOk → step s = .next t → t.SchedulerOk ∧ t.RegistryOk

/-- R13, R39, R40: every operation and event takes zero model time, and none writes BAUD or `T`. -/
def Obligations.OperationsTakeNoTime : Prop :=
  ∀ (i : Instr) (s t : State), exec i s = .next t → t.time = s.time ∧ t.baud = s.baud

/-- R40: `T` only grows. 10_state.md R27: the output logs are append-only. R39: BAUD never changes. -/
def Obligations.TimeAndLogsOnlyGrow : Prop :=
  ∀ s t : State, step s = .next t →
    s.time ≤ t.time ∧ s.txStream <+: t.txStream ∧ s.deLog <+: t.deLog ∧ t.baud = s.baud

/-- R206: where no event is enabled and no input is due, time passes, and nothing else: to the nearest pending instant, or, where
nothing is pending, by an amount that nothing fixes (log entry 9). -/
def Obligations.TimePassesToNextDeadline : Prop :=
  ∀ s : State, s.calm = true → s.internalEvent = none → (∀ x ∈ s.inputs.head?, s.time < x.due) →
    (∀ d ∈ s.deadlines, s.time ≤ d) →
    (s.horizon = [] → step s = .next { s with time := s.time + Config.idleDelay s.draws, draws := s.draws + 1 })
    ∧ (s.horizon ≠ [] → ∃ t', step s = .next { s with time := t' } ∧ s.time < t' ∧ t' ∈ s.horizon ∧ ∀ d ∈ s.horizon, t' ≤ d)

/-- R207: TX_DONE, then DE_RELEASE, then the end of waits, before every other transition at the instant. -/
def Obligations.TimerEventsFireFirst : Prop :=
  ∀ s : State,
    (s.tphase = .transmitting → s.time = s.txDataEnd → step s = exec .txDone s)
    ∧ (¬(s.tphase = .transmitting ∧ s.time = s.txDataEnd) → s.deTimer.armed = true → s.time = s.deTimer.deadline →
        step s = exec .deRelease s)
    ∧ (∀ w, s.txDoneEnabled = false → s.deReleaseEnabled = false → s.busWait = some w → s.time = w.issuedAt + 200_000 →
        step s = s.busWaitTimeout)
    ∧ (∀ i, s.calm = true → s.internalEvent = some i → s.dueInput = none → step s = exec i s)

/-- R207, class (3), the other order: an input that is due and yields lets the enabled scheduler event go first, stays, and yields to one
less (log entry 1). R169, R183, R206: a scan has SCAN_STEP or SLEEP enabled at every slot, and while a scheduler event is enabled no
step lets time pass. -/
def Obligations.SchedulerEventMayGoFirstAndIsUrgent : Prop :=
  (∀ (s : State) (x : Input) (rest : List Input) (i : Instr), s.calm = true → s.inputs = x :: rest → x.due ≤ s.time → 0 < x.yields →
    s.internalEvent = some i → step s = exec i { s with inputs := { x with yields := x.yields - 1 } :: rest })
  ∧ (∀ s : State, s.schedPhase = .scanning → s.internalEvent = some (if s.scanI.val < 32 then .scanStep else .sleep))
  ∧ ∀ s t : State, s.internalEvent ≠ none → step s = .next t → t.time = s.time

/-- The step runs the decoded instruction: an input that is due, in a state where no timer event fires and no wait ends, and which
yields to no internal transition, is taken off `inputs` and run; `withFetchWord` puts a table word there. -/
def Obligations.StepRunsDecodedInstruction : Prop :=
  (∀ (s : State) (x : Input) (rest : List Input) (i : Instr), s.calm = true → s.inputs = x :: rest → x.due ≤ s.time →
    (x.yields = 0 ∨ s.internalEvent = none) → decode x.word = .ok i → step s = exec i { s with inputs := rest })
  ∧ ∀ (s : State) (nbits w : Nat) (i : Instr), s.calm = true → decodeTableWord nbits w = some i →
    step (s.withFetchWord nbits w) = exec i s

/-- R221, R211: no step from a coherent state faults. -/
def Obligations.NoDeadlineIsMissed : Prop :=
  ∀ (s : State) (r : Fault), s.TransportOk → s.SchedulerOk → step s ≠ .fault r

/-- R211, R185: left alone, the block never stops: with no input pending and no external transport call pending, every coherent state
has a next state. -/
def Obligations.BlockNeverStopsByItself : Prop :=
  ∀ s : State, s.Ok → s.inputs = [] → (∀ w, s.busWait = some w → w.caller = .scheduler) →
    (∀ r, s.rxOp = some r → r.caller = .scheduler) → ∃ t, step s = .next t

/-- R42, U3: no result depends on what is unspecified: putting the unspecified parts to their reset values first makes no difference
to what a step does, but in the unspecified parts of the state it leads to. -/
def Obligations.NothingDependsOnUnspecifiedState : Prop :=
  ∀ s : State, s.SchedulerOk → Out.map State.forget (step s.forget) = Out.map State.forget (step s)

/- ---- Encodings ---- -/

/-- R75, R76, R79: decoding the encoding of a well-formed instruction gives it back, with every operand at every value. -/
def Obligations.DecodeInvertsEncode : Prop :=
  ∀ (i : Instr) (w : PortWord), i.wf = true → encode i = some w → decode w = .ok i

/-- R75, R76, R79: a frame that decodes is the encoding of what it decodes to, byte for byte; a command keeps its code. -/
def Obligations.EncodeInvertsDecode : Prop :=
  (∀ (bs : List Byte) (i : Instr), decode (.txFrame bs) = .ok i → encode i = some (.txFrame bs))
  ∧ (∀ (bs : List Byte) (i : Instr), decode (.rxLine bs) = .ok i → encode i = some (.rxLine bs))
  ∧ ∀ (code : BitVec 4) (p : OperandPorts) (i : Instr), decode (.command code p) = .ok i →
      ∃ q, encode i = some (.command code q) ∧ decode (.command code q) = .ok i

/-- R79, R83: the command codes, with undriven operand ports; the reserved codes decode to nothing, and a step refuses one by name. -/
def Obligations.CommandCodes : Prop :=
  decodeTableWord 8 0x1 = some (.crc16 []) ∧ decodeTableWord 8 0x2 = some (.build 0 0 0 0)
  ∧ decodeTableWord 8 0x3 = some (.parse [] 0 0) ∧ decodeTableWord 8 0x4 = some (.transmit [])
  ∧ decodeTableWord 8 0x5 = some (.receive 0 0) ∧ decodeTableWord 8 0x6 = some (.register ⟨0, 0, 0, 0⟩)
  ∧ decodeTableWord 8 0x7 = some (.unregister 0) ∧ decodeTableWord 8 0x8 = some (.snapshot 0)
  ∧ decodeTableWord 8 0x9 = some .count ∧ decodeTableWord 8 0xA = some .start ∧ decodeTableWord 8 0xB = some .stop
  ∧ ∀ code ∈ [0x0, 0xC, 0xD, 0xE, 0xF], ∀ (s : State) (p : OperandPorts), s.calm = true →
      step { s with inputs := [⟨s.time, 0, .command code p⟩] } = .refused (.reservedCommand code)
end

