-- ==== Sys2Proof/Laws/Codec.lean ====
section
/-! SUPPORT. The codec's small laws: the two byte orders split and join, PARSE succeeds exactly when every check passes, and what the
bytes of a list of words are. -/

namespace Sys2Proof.Machine

theorem be16_toNat (hi lo : Byte) : (be16 hi lo).toNat = 256 * hi.toNat + lo.toNat := by
  have := lo.isLt
  rw [be16, BitVec.toNat_append, ← Nat.shiftLeft_add_eq_or_of_lt (by omega), Nat.shiftLeft_eq]
  omega

theorem le16_toNat (lo hi : Byte) : (le16 lo hi).toNat = lo.toNat + 256 * hi.toNat := by
  have := be16_toNat hi lo
  unfold be16 at this
  unfold le16
  omega

@[simp] theorem be16_split (v : U16) : be16 (hiByte v) (loByte v) = v := by
  apply BitVec.eq_of_getLsbD_eq
  intro i hi
  rw [be16, BitVec.getLsbD_append, hiByte, loByte, BitVec.getLsbD_extractLsb', BitVec.getLsbD_extractLsb']
  split
  · simp [*]
  · rw [show 8 + (i - 8) = i by omega]
    simp
    omega

@[simp] theorem le16_split (v : U16) : le16 (loByte v) (hiByte v) = v := be16_split v

@[simp] theorem hiByte_be16 (hi lo : Byte) : hiByte (be16 hi lo) = hi := by
  apply BitVec.eq_of_getLsbD_eq
  intro i h
  rw [hiByte, be16, BitVec.getLsbD_extractLsb', BitVec.getLsbD_append, if_neg (by omega)]
  simp [h]

@[simp] theorem loByte_be16 (hi lo : Byte) : loByte (be16 hi lo) = lo := by
  apply BitVec.eq_of_getLsbD_eq
  intro i h
  rw [loByte, be16, BitVec.getLsbD_extractLsb', BitVec.getLsbD_append, if_pos (by omega)]
  simp [h]

@[simp] theorem hiByte_le16 (lo hi : Byte) : hiByte (le16 lo hi) = hi := hiByte_be16 hi lo
@[simp] theorem loByte_le16 (lo hi : Byte) : loByte (le16 lo hi) = lo := loByte_be16 hi lo

/-- PARSE succeeds exactly when every check of R111 passes, and then returns the words. -/
theorem parse_ok_iff (f : List Byte) (a : Byte) (n : U16) (vs : List U16) : parse f a n = .ok vs ↔
    5 ≤ f.length ∧ byteAt f 0 = a ∧ byteAt f 1 = 0x03 ∧ (byteAt f 2).toNat = 2 * n.toNat ∧ 5 + 2 * n.toNat ≤ f.length
      ∧ crc16 (f.take (3 + 2 * n.toNat)) = le16 (byteAt f (3 + 2 * n.toNat)) (byteAt f (4 + 2 * n.toNat))
      ∧ n.toNat ≤ 64 ∧ vs = decodeWords f n.toNat := by
  simp only [parse, Config.RSP_MIN, Config.RSP_OVERHEAD, Config.FUNC_READ, Config.SNAP_CAP]
  constructor
  · intro h
    by_cases h1 : f.length < 5
    · rw [if_pos h1] at h; cases h
    by_cases h2 : byteAt f 0 ≠ a ∨ byteAt f 1 ≠ 0x03
    · rw [if_neg h1, if_pos h2] at h; cases h
    by_cases h3 : (byteAt f 2).toNat ≠ 2 * n.toNat
    · rw [if_neg h1, if_neg h2, if_pos h3] at h; cases h
    rw [if_neg h1, if_neg h2, if_neg h3, not_not.mp h3] at h
    split at h; · cases h
    split at h; · cases h
    split at h; · cases h
    injection h with h
    rename_i h4 h5 h6
    push Not at h2 h3 h5
    exact ⟨by omega, h2.1, h2.2, h3, by omega, h5, by omega, h.symm⟩
  · rintro ⟨h1, h2, h3, h4, h5, h6, h7, rfl⟩
    rw [if_neg (by omega), if_neg (by simp [h2, h3]), if_neg (by simp [h4]), h4, if_neg (by omega), if_neg (by simp [h6]),
      if_neg (by omega)]

@[simp] theorem decodeWords_length (f : List Byte) (n : Nat) : (decodeWords f n).length = n := by simp [decodeWords]

/-- The words PARSE returns are as many as were asked for, and fit a snapshot. -/
theorem parse_ok_length {f : List Byte} {a : Byte} {n : U16} {vs : List U16} (h : parse f a n = .ok vs) :
    vs.length = n.toNat ∧ n.toNat ≤ 64 := by
  obtain ⟨-, -, -, -, -, -, hn, rfl⟩ := (parse_ok_iff f a n vs).mp h
  exact ⟨decodeWords_length .., hn⟩

/-- A failed PARSE names an error. -/
theorem parse_error_ne_ok {f : List Byte} {a : Byte} {n : U16} : parse f a n ≠ .error .ok := by
  intro h
  unfold parse at h
  split at h; · cases h
  split at h; · cases h
  dsimp only at h
  repeat' split at h
  all_goals cases h

@[simp] theorem encodeWords_length (vs : List U16) : (encodeWords vs).length = 2 * vs.length := by
  induction vs with
  | nil => rfl
  | cons v vs ih => simp [encodeWords] at ih ⊢; omega

/-- The two bytes of word `k` in the bytes of a list of words. -/
theorem encodeWords_getD (vs : List U16) (k : Nat) (hk : k < vs.length) :
    (encodeWords vs).getD (2 * k) 0 = hiByte (vs.getD k 0) ∧ (encodeWords vs).getD (2 * k + 1) 0 = loByte (vs.getD k 0) := by
  induction vs generalizing k with
  | nil => simp at hk
  | cons v vs ih =>
    rcases k with _ | k
    · simp [encodeWords]
    · simpa [encodeWords, Nat.mul_add] using ih k (by simpa using hk)

end Sys2Proof.Machine
end

