-- ==== Sys2Proof/Laws/PerInstr.lean ====
section
/-! SUPPORT. A statement about every instruction as syntax: it is encoded on the port, and under the command code, that its row of
spec/opcode_table.json gives it; an event and the pseudo-operation have no encoding (30_encoding.md R79, R87). -/

namespace Sys2Proof.Laws.EncodedOnItsPort

/-- Where the row of an instruction puts it (30_encoding.md R75, R76, R79). -/
inductive Port where
  | cmd (code : BitVec 4)
  | transmitSide
  | receiveSide
  deriving DecidableEq, Repr

/-- The port a word stands on. -/
def portOf : PortWord → Port
  | .command code _ => .cmd code
  | .txFrame _ => .transmitSide
  | .rxLine _ => .receiveSide

/-- The table's rows, in its order. -/
def rowPort : Instr → Option Port
  | .crc16 _ => some (.cmd 0x1)
  | .build _ _ _ _ => some (.cmd 0x2)
  | .parse _ _ _ => some (.cmd 0x3)
  | .transmit _ => some (.cmd 0x4)
  | .receive _ _ => some (.cmd 0x5)
  | .register _ => some (.cmd 0x6)
  | .unregister _ => some (.cmd 0x7)
  | .snapshot _ => some (.cmd 0x8)
  | .count => some (.cmd 0x9)
  | .start => some (.cmd 0xA)
  | .stop => some (.cmd 0xB)
  | .req8 _ _ _ _ => some .transmitSide
  | .rspv _ _ _ => some .receiveSide
  | .txDone | .deRelease | .wake | .scanStep | .poll | .sleep => none
  | .synth _ _ _ => none

def Statement (i : Instr) : Prop := (encode i).map portOf = rowPort i

theorem crc16 (bytes : List Byte) : Statement (.crc16 bytes) := rfl
theorem build (a : Byte) (s n : U16) (cap : Nat) : Statement (.build a s n cap) := rfl
theorem parse (f : List Byte) (a : Byte) (n : U16) : Statement (.parse f a n) := rfl
theorem transmit (f : List Byte) : Statement (.transmit f) := rfl
theorem receive (len ms : Nat) : Statement (.receive len ms) := rfl
theorem register (cfg : SlaveConfig) : Statement (.register cfg) := rfl
theorem unregister (k : Int) : Statement (.unregister k) := rfl
theorem snapshot (k : Int) : Statement (.snapshot k) := rfl
theorem count : Statement (.count) := rfl
theorem start : Statement (.start) := rfl
theorem stop : Statement (.stop) := rfl
theorem req8 (a : Byte) (s n crc : U16) : Statement (.req8 a s n crc) := rfl
theorem rspv (a : Byte) (d : List Byte) (crc : U16) : Statement (.rspv a d crc) := rfl
theorem txDone : Statement (.txDone) := rfl
theorem deRelease : Statement (.deRelease) := rfl
theorem wake : Statement (.wake) := rfl
theorem scanStep : Statement (.scanStep) := rfl
theorem poll : Statement (.poll) := rfl
theorem sleep : Statement (.sleep) := rfl
theorem synth (a : Byte) (n : Nat) (vs : List U16) : Statement (.synth a n vs) := rfl

end Sys2Proof.Laws.EncodedOnItsPort
end

