-- ==== Sys2Proof/Laws/State.lean ====
section
/-! SUPPORT. The frame of every shared update of State: one lemma per field it leaves alone, so that no later proof unfolds a record
update, and the field it writes where that is one expression. -/

namespace Sys2Proof.Machine

@[simp] theorem ret_result (s : State) (r : OpResult) : (s.ret r).result = some r := rfl
@[simp] theorem setSlot_slots (s : State) (i : Fin Config.MAX_SLAVES) (x : SlaveState) :
    (s.setSlot i x).slots = s.slots.set i x := rfl
@[simp] theorem setStep_poll (s : State) (x : PollStep) : (s.setStep x).poll = { s.poll with step := x } := rfl
@[simp] theorem endPoll_scanI (s : State) : s.endPoll.scanI = s.poll.slot.succ := rfl
@[simp] theorem endPoll_schedPhase (s : State) : s.endPoll.schedPhase = .scanning := rfl
@[simp] theorem failPoll_schedPhase (s : State) (e : ErrCode) : (s.failPoll e).schedPhase = .scanning := rfl
@[simp] theorem completeReceive_rxOp (s : State) (c : Caller) (bs : List Byte) : (s.completeReceive c bs).rxOp = none := by
  cases c <;> rfl
@[simp] theorem releaseDe_de (s : State) : s.releaseDe.de = false := rfl
@[simp] theorem releaseDe_deLog (s : State) : s.releaseDe.deLog = s.deLog ++ [(s.time, false)] := rfl
@[simp] theorem releaseDe_deTimer (s : State) : s.releaseDe.deTimer = { s.deTimer with armed := false } := rfl
@[simp] theorem releaseDe_tphase (s : State) : s.releaseDe.tphase = .idle := rfl
@[simp] theorem beginPoll_schedPhase (s : State) (i : Fin Config.MAX_SLAVES) (now : U32) :
    (s.beginPoll i now).schedPhase = .inPoll := rfl
@[simp] theorem beginPoll_poll (s : State) (i : Fin Config.MAX_SLAVES) (now : U32) :
    (s.beginPoll i now).poll = { s.poll with slot := i, cfg := (s.slot i).cfg, now := now, step := .start } := rfl

/-! `State.ret` writes only: result. -/

@[simp] theorem ret_de (s : State) (r : OpResult) : (s.ret r).de = s.de := rfl
@[simp] theorem ret_tphase (s : State) (r : OpResult) : (s.ret r).tphase = s.tphase := rfl
@[simp] theorem ret_txDataEnd (s : State) (r : OpResult) : (s.ret r).txDataEnd = s.txDataEnd := rfl
@[simp] theorem ret_deTimer (s : State) (r : OpResult) : (s.ret r).deTimer = s.deTimer := rfl
@[simp] theorem ret_busWait (s : State) (r : OpResult) : (s.ret r).busWait = s.busWait := rfl
@[simp] theorem ret_rxOp (s : State) (r : OpResult) : (s.ret r).rxOp = s.rxOp := rfl
@[simp] theorem ret_slots (s : State) (r : OpResult) : (s.ret r).slots = s.slots := rfl
@[simp] theorem ret_slaveCount (s : State) (r : OpResult) : (s.ret r).slaveCount = s.slaveCount := rfl
@[simp] theorem ret_regLock (s : State) (r : OpResult) : (s.ret r).regLock = s.regLock := rfl
@[simp] theorem ret_running (s : State) (r : OpResult) : (s.ret r).running = s.running := rfl
@[simp] theorem ret_taskAlive (s : State) (r : OpResult) : (s.ret r).taskAlive = s.taskAlive := rfl
@[simp] theorem ret_schedPhase (s : State) (r : OpResult) : (s.ret r).schedPhase = s.schedPhase := rfl
@[simp] theorem ret_scanI (s : State) (r : OpResult) : (s.ret r).scanI = s.scanI := rfl
@[simp] theorem ret_wakeAt (s : State) (r : OpResult) : (s.ret r).wakeAt = s.wakeAt := rfl
@[simp] theorem ret_poll (s : State) (r : OpResult) : (s.ret r).poll = s.poll := rfl
@[simp] theorem ret_time (s : State) (r : OpResult) : (s.ret r).time = s.time := rfl
@[simp] theorem ret_txStream (s : State) (r : OpResult) : (s.ret r).txStream = s.txStream := rfl
@[simp] theorem ret_deLog (s : State) (r : OpResult) : (s.ret r).deLog = s.deLog := rfl
@[simp] theorem ret_baud (s : State) (r : OpResult) : (s.ret r).baud = s.baud := rfl
@[simp] theorem ret_inputs (s : State) (r : OpResult) : (s.ret r).inputs = s.inputs := rfl
@[simp] theorem ret_draws (s : State) (r : OpResult) : (s.ret r).draws = s.draws := rfl

/-! `State.setSlot` writes only: slots. -/

@[simp] theorem setSlot_de (s : State) (i : Fin Config.MAX_SLAVES) (x : SlaveState) : (s.setSlot i x).de = s.de := rfl
@[simp] theorem setSlot_tphase (s : State) (i : Fin Config.MAX_SLAVES) (x : SlaveState) : (s.setSlot i x).tphase = s.tphase := rfl
@[simp] theorem setSlot_txDataEnd (s : State) (i : Fin Config.MAX_SLAVES) (x : SlaveState) : (s.setSlot i x).txDataEnd = s.txDataEnd := rfl
@[simp] theorem setSlot_deTimer (s : State) (i : Fin Config.MAX_SLAVES) (x : SlaveState) : (s.setSlot i x).deTimer = s.deTimer := rfl
@[simp] theorem setSlot_busWait (s : State) (i : Fin Config.MAX_SLAVES) (x : SlaveState) : (s.setSlot i x).busWait = s.busWait := rfl
@[simp] theorem setSlot_rxOp (s : State) (i : Fin Config.MAX_SLAVES) (x : SlaveState) : (s.setSlot i x).rxOp = s.rxOp := rfl
@[simp] theorem setSlot_slaveCount (s : State) (i : Fin Config.MAX_SLAVES) (x : SlaveState) : (s.setSlot i x).slaveCount = s.slaveCount := rfl
@[simp] theorem setSlot_regLock (s : State) (i : Fin Config.MAX_SLAVES) (x : SlaveState) : (s.setSlot i x).regLock = s.regLock := rfl
@[simp] theorem setSlot_running (s : State) (i : Fin Config.MAX_SLAVES) (x : SlaveState) : (s.setSlot i x).running = s.running := rfl
@[simp] theorem setSlot_taskAlive (s : State) (i : Fin Config.MAX_SLAVES) (x : SlaveState) : (s.setSlot i x).taskAlive = s.taskAlive := rfl
@[simp] theorem setSlot_schedPhase (s : State) (i : Fin Config.MAX_SLAVES) (x : SlaveState) : (s.setSlot i x).schedPhase = s.schedPhase := rfl
@[simp] theorem setSlot_scanI (s : State) (i : Fin Config.MAX_SLAVES) (x : SlaveState) : (s.setSlot i x).scanI = s.scanI := rfl
@[simp] theorem setSlot_wakeAt (s : State) (i : Fin Config.MAX_SLAVES) (x : SlaveState) : (s.setSlot i x).wakeAt = s.wakeAt := rfl
@[simp] theorem setSlot_poll (s : State) (i : Fin Config.MAX_SLAVES) (x : SlaveState) : (s.setSlot i x).poll = s.poll := rfl
@[simp] theorem setSlot_time (s : State) (i : Fin Config.MAX_SLAVES) (x : SlaveState) : (s.setSlot i x).time = s.time := rfl
@[simp] theorem setSlot_txStream (s : State) (i : Fin Config.MAX_SLAVES) (x : SlaveState) : (s.setSlot i x).txStream = s.txStream := rfl
@[simp] theorem setSlot_deLog (s : State) (i : Fin Config.MAX_SLAVES) (x : SlaveState) : (s.setSlot i x).deLog = s.deLog := rfl
@[simp] theorem setSlot_baud (s : State) (i : Fin Config.MAX_SLAVES) (x : SlaveState) : (s.setSlot i x).baud = s.baud := rfl
@[simp] theorem setSlot_result (s : State) (i : Fin Config.MAX_SLAVES) (x : SlaveState) : (s.setSlot i x).result = s.result := rfl
@[simp] theorem setSlot_inputs (s : State) (i : Fin Config.MAX_SLAVES) (x : SlaveState) : (s.setSlot i x).inputs = s.inputs := rfl
@[simp] theorem setSlot_draws (s : State) (i : Fin Config.MAX_SLAVES) (x : SlaveState) : (s.setSlot i x).draws = s.draws := rfl

/-! `State.setSnap` writes only: slots. -/

@[simp] theorem setSnap_de (s : State) (i : Fin Config.MAX_SLAVES) (n : Snapshot) : (s.setSnap i n).de = s.de := rfl
@[simp] theorem setSnap_tphase (s : State) (i : Fin Config.MAX_SLAVES) (n : Snapshot) : (s.setSnap i n).tphase = s.tphase := rfl
@[simp] theorem setSnap_txDataEnd (s : State) (i : Fin Config.MAX_SLAVES) (n : Snapshot) : (s.setSnap i n).txDataEnd = s.txDataEnd := rfl
@[simp] theorem setSnap_deTimer (s : State) (i : Fin Config.MAX_SLAVES) (n : Snapshot) : (s.setSnap i n).deTimer = s.deTimer := rfl
@[simp] theorem setSnap_busWait (s : State) (i : Fin Config.MAX_SLAVES) (n : Snapshot) : (s.setSnap i n).busWait = s.busWait := rfl
@[simp] theorem setSnap_rxOp (s : State) (i : Fin Config.MAX_SLAVES) (n : Snapshot) : (s.setSnap i n).rxOp = s.rxOp := rfl
@[simp] theorem setSnap_slaveCount (s : State) (i : Fin Config.MAX_SLAVES) (n : Snapshot) : (s.setSnap i n).slaveCount = s.slaveCount := rfl
@[simp] theorem setSnap_regLock (s : State) (i : Fin Config.MAX_SLAVES) (n : Snapshot) : (s.setSnap i n).regLock = s.regLock := rfl
@[simp] theorem setSnap_running (s : State) (i : Fin Config.MAX_SLAVES) (n : Snapshot) : (s.setSnap i n).running = s.running := rfl
@[simp] theorem setSnap_taskAlive (s : State) (i : Fin Config.MAX_SLAVES) (n : Snapshot) : (s.setSnap i n).taskAlive = s.taskAlive := rfl
@[simp] theorem setSnap_schedPhase (s : State) (i : Fin Config.MAX_SLAVES) (n : Snapshot) : (s.setSnap i n).schedPhase = s.schedPhase := rfl
@[simp] theorem setSnap_scanI (s : State) (i : Fin Config.MAX_SLAVES) (n : Snapshot) : (s.setSnap i n).scanI = s.scanI := rfl
@[simp] theorem setSnap_wakeAt (s : State) (i : Fin Config.MAX_SLAVES) (n : Snapshot) : (s.setSnap i n).wakeAt = s.wakeAt := rfl
@[simp] theorem setSnap_poll (s : State) (i : Fin Config.MAX_SLAVES) (n : Snapshot) : (s.setSnap i n).poll = s.poll := rfl
@[simp] theorem setSnap_time (s : State) (i : Fin Config.MAX_SLAVES) (n : Snapshot) : (s.setSnap i n).time = s.time := rfl
@[simp] theorem setSnap_txStream (s : State) (i : Fin Config.MAX_SLAVES) (n : Snapshot) : (s.setSnap i n).txStream = s.txStream := rfl
@[simp] theorem setSnap_deLog (s : State) (i : Fin Config.MAX_SLAVES) (n : Snapshot) : (s.setSnap i n).deLog = s.deLog := rfl
@[simp] theorem setSnap_baud (s : State) (i : Fin Config.MAX_SLAVES) (n : Snapshot) : (s.setSnap i n).baud = s.baud := rfl
@[simp] theorem setSnap_result (s : State) (i : Fin Config.MAX_SLAVES) (n : Snapshot) : (s.setSnap i n).result = s.result := rfl
@[simp] theorem setSnap_inputs (s : State) (i : Fin Config.MAX_SLAVES) (n : Snapshot) : (s.setSnap i n).inputs = s.inputs := rfl
@[simp] theorem setSnap_draws (s : State) (i : Fin Config.MAX_SLAVES) (n : Snapshot) : (s.setSnap i n).draws = s.draws := rfl

/-! `State.setStep` writes only: poll. -/

@[simp] theorem setStep_de (s : State) (x : PollStep) : (s.setStep x).de = s.de := rfl
@[simp] theorem setStep_tphase (s : State) (x : PollStep) : (s.setStep x).tphase = s.tphase := rfl
@[simp] theorem setStep_txDataEnd (s : State) (x : PollStep) : (s.setStep x).txDataEnd = s.txDataEnd := rfl
@[simp] theorem setStep_deTimer (s : State) (x : PollStep) : (s.setStep x).deTimer = s.deTimer := rfl
@[simp] theorem setStep_busWait (s : State) (x : PollStep) : (s.setStep x).busWait = s.busWait := rfl
@[simp] theorem setStep_rxOp (s : State) (x : PollStep) : (s.setStep x).rxOp = s.rxOp := rfl
@[simp] theorem setStep_slots (s : State) (x : PollStep) : (s.setStep x).slots = s.slots := rfl
@[simp] theorem setStep_slaveCount (s : State) (x : PollStep) : (s.setStep x).slaveCount = s.slaveCount := rfl
@[simp] theorem setStep_regLock (s : State) (x : PollStep) : (s.setStep x).regLock = s.regLock := rfl
@[simp] theorem setStep_running (s : State) (x : PollStep) : (s.setStep x).running = s.running := rfl
@[simp] theorem setStep_taskAlive (s : State) (x : PollStep) : (s.setStep x).taskAlive = s.taskAlive := rfl
@[simp] theorem setStep_schedPhase (s : State) (x : PollStep) : (s.setStep x).schedPhase = s.schedPhase := rfl
@[simp] theorem setStep_scanI (s : State) (x : PollStep) : (s.setStep x).scanI = s.scanI := rfl
@[simp] theorem setStep_wakeAt (s : State) (x : PollStep) : (s.setStep x).wakeAt = s.wakeAt := rfl
@[simp] theorem setStep_time (s : State) (x : PollStep) : (s.setStep x).time = s.time := rfl
@[simp] theorem setStep_txStream (s : State) (x : PollStep) : (s.setStep x).txStream = s.txStream := rfl
@[simp] theorem setStep_deLog (s : State) (x : PollStep) : (s.setStep x).deLog = s.deLog := rfl
@[simp] theorem setStep_baud (s : State) (x : PollStep) : (s.setStep x).baud = s.baud := rfl
@[simp] theorem setStep_result (s : State) (x : PollStep) : (s.setStep x).result = s.result := rfl
@[simp] theorem setStep_inputs (s : State) (x : PollStep) : (s.setStep x).inputs = s.inputs := rfl
@[simp] theorem setStep_draws (s : State) (x : PollStep) : (s.setStep x).draws = s.draws := rfl

/-! `State.endPoll` writes only: slots, scanI, schedPhase. -/

@[simp] theorem endPoll_de (s : State) : (s.endPoll).de = s.de := rfl
@[simp] theorem endPoll_tphase (s : State) : (s.endPoll).tphase = s.tphase := rfl
@[simp] theorem endPoll_txDataEnd (s : State) : (s.endPoll).txDataEnd = s.txDataEnd := rfl
@[simp] theorem endPoll_deTimer (s : State) : (s.endPoll).deTimer = s.deTimer := rfl
@[simp] theorem endPoll_busWait (s : State) : (s.endPoll).busWait = s.busWait := rfl
@[simp] theorem endPoll_rxOp (s : State) : (s.endPoll).rxOp = s.rxOp := rfl
@[simp] theorem endPoll_slaveCount (s : State) : (s.endPoll).slaveCount = s.slaveCount := rfl
@[simp] theorem endPoll_regLock (s : State) : (s.endPoll).regLock = s.regLock := rfl
@[simp] theorem endPoll_running (s : State) : (s.endPoll).running = s.running := rfl
@[simp] theorem endPoll_taskAlive (s : State) : (s.endPoll).taskAlive = s.taskAlive := rfl
@[simp] theorem endPoll_wakeAt (s : State) : (s.endPoll).wakeAt = s.wakeAt := rfl
@[simp] theorem endPoll_poll (s : State) : (s.endPoll).poll = s.poll := rfl
@[simp] theorem endPoll_time (s : State) : (s.endPoll).time = s.time := rfl
@[simp] theorem endPoll_txStream (s : State) : (s.endPoll).txStream = s.txStream := rfl
@[simp] theorem endPoll_deLog (s : State) : (s.endPoll).deLog = s.deLog := rfl
@[simp] theorem endPoll_baud (s : State) : (s.endPoll).baud = s.baud := rfl
@[simp] theorem endPoll_result (s : State) : (s.endPoll).result = s.result := rfl
@[simp] theorem endPoll_inputs (s : State) : (s.endPoll).inputs = s.inputs := rfl
@[simp] theorem endPoll_draws (s : State) : (s.endPoll).draws = s.draws := rfl

/-! `State.publish` writes only: slots. -/

@[simp] theorem publish_de (s : State) (i : Fin Config.MAX_SLAVES) (vals : List U16) (n : Nat) : (s.publish i vals n).de = s.de := by unfold State.publish; split <;> rfl
@[simp] theorem publish_tphase (s : State) (i : Fin Config.MAX_SLAVES) (vals : List U16) (n : Nat) : (s.publish i vals n).tphase = s.tphase := by unfold State.publish; split <;> rfl
@[simp] theorem publish_txDataEnd (s : State) (i : Fin Config.MAX_SLAVES) (vals : List U16) (n : Nat) : (s.publish i vals n).txDataEnd = s.txDataEnd := by unfold State.publish; split <;> rfl
@[simp] theorem publish_deTimer (s : State) (i : Fin Config.MAX_SLAVES) (vals : List U16) (n : Nat) : (s.publish i vals n).deTimer = s.deTimer := by unfold State.publish; split <;> rfl
@[simp] theorem publish_busWait (s : State) (i : Fin Config.MAX_SLAVES) (vals : List U16) (n : Nat) : (s.publish i vals n).busWait = s.busWait := by unfold State.publish; split <;> rfl
@[simp] theorem publish_rxOp (s : State) (i : Fin Config.MAX_SLAVES) (vals : List U16) (n : Nat) : (s.publish i vals n).rxOp = s.rxOp := by unfold State.publish; split <;> rfl
@[simp] theorem publish_slaveCount (s : State) (i : Fin Config.MAX_SLAVES) (vals : List U16) (n : Nat) : (s.publish i vals n).slaveCount = s.slaveCount := by unfold State.publish; split <;> rfl
@[simp] theorem publish_regLock (s : State) (i : Fin Config.MAX_SLAVES) (vals : List U16) (n : Nat) : (s.publish i vals n).regLock = s.regLock := by unfold State.publish; split <;> rfl
@[simp] theorem publish_running (s : State) (i : Fin Config.MAX_SLAVES) (vals : List U16) (n : Nat) : (s.publish i vals n).running = s.running := by unfold State.publish; split <;> rfl
@[simp] theorem publish_taskAlive (s : State) (i : Fin Config.MAX_SLAVES) (vals : List U16) (n : Nat) : (s.publish i vals n).taskAlive = s.taskAlive := by unfold State.publish; split <;> rfl
@[simp] theorem publish_schedPhase (s : State) (i : Fin Config.MAX_SLAVES) (vals : List U16) (n : Nat) : (s.publish i vals n).schedPhase = s.schedPhase := by unfold State.publish; split <;> rfl
@[simp] theorem publish_scanI (s : State) (i : Fin Config.MAX_SLAVES) (vals : List U16) (n : Nat) : (s.publish i vals n).scanI = s.scanI := by unfold State.publish; split <;> rfl
@[simp] theorem publish_wakeAt (s : State) (i : Fin Config.MAX_SLAVES) (vals : List U16) (n : Nat) : (s.publish i vals n).wakeAt = s.wakeAt := by unfold State.publish; split <;> rfl
@[simp] theorem publish_poll (s : State) (i : Fin Config.MAX_SLAVES) (vals : List U16) (n : Nat) : (s.publish i vals n).poll = s.poll := by unfold State.publish; split <;> rfl
@[simp] theorem publish_time (s : State) (i : Fin Config.MAX_SLAVES) (vals : List U16) (n : Nat) : (s.publish i vals n).time = s.time := by unfold State.publish; split <;> rfl
@[simp] theorem publish_txStream (s : State) (i : Fin Config.MAX_SLAVES) (vals : List U16) (n : Nat) : (s.publish i vals n).txStream = s.txStream := by unfold State.publish; split <;> rfl
@[simp] theorem publish_deLog (s : State) (i : Fin Config.MAX_SLAVES) (vals : List U16) (n : Nat) : (s.publish i vals n).deLog = s.deLog := by unfold State.publish; split <;> rfl
@[simp] theorem publish_baud (s : State) (i : Fin Config.MAX_SLAVES) (vals : List U16) (n : Nat) : (s.publish i vals n).baud = s.baud := by unfold State.publish; split <;> rfl
@[simp] theorem publish_result (s : State) (i : Fin Config.MAX_SLAVES) (vals : List U16) (n : Nat) : (s.publish i vals n).result = s.result := by unfold State.publish; split <;> rfl
@[simp] theorem publish_inputs (s : State) (i : Fin Config.MAX_SLAVES) (vals : List U16) (n : Nat) : (s.publish i vals n).inputs = s.inputs := by unfold State.publish; split <;> rfl
@[simp] theorem publish_draws (s : State) (i : Fin Config.MAX_SLAVES) (vals : List U16) (n : Nat) : (s.publish i vals n).draws = s.draws := by unfold State.publish; split <;> rfl

/-! `State.setError` writes only: slots. -/

@[simp] theorem setError_de (s : State) (i : Fin Config.MAX_SLAVES) (e : ErrCode) : (s.setError i e).de = s.de := by unfold State.setError; split <;> rfl
@[simp] theorem setError_tphase (s : State) (i : Fin Config.MAX_SLAVES) (e : ErrCode) : (s.setError i e).tphase = s.tphase := by unfold State.setError; split <;> rfl
@[simp] theorem setError_txDataEnd (s : State) (i : Fin Config.MAX_SLAVES) (e : ErrCode) : (s.setError i e).txDataEnd = s.txDataEnd := by unfold State.setError; split <;> rfl
@[simp] theorem setError_deTimer (s : State) (i : Fin Config.MAX_SLAVES) (e : ErrCode) : (s.setError i e).deTimer = s.deTimer := by unfold State.setError; split <;> rfl
@[simp] theorem setError_busWait (s : State) (i : Fin Config.MAX_SLAVES) (e : ErrCode) : (s.setError i e).busWait = s.busWait := by unfold State.setError; split <;> rfl
@[simp] theorem setError_rxOp (s : State) (i : Fin Config.MAX_SLAVES) (e : ErrCode) : (s.setError i e).rxOp = s.rxOp := by unfold State.setError; split <;> rfl
@[simp] theorem setError_slaveCount (s : State) (i : Fin Config.MAX_SLAVES) (e : ErrCode) : (s.setError i e).slaveCount = s.slaveCount := by unfold State.setError; split <;> rfl
@[simp] theorem setError_regLock (s : State) (i : Fin Config.MAX_SLAVES) (e : ErrCode) : (s.setError i e).regLock = s.regLock := by unfold State.setError; split <;> rfl
@[simp] theorem setError_running (s : State) (i : Fin Config.MAX_SLAVES) (e : ErrCode) : (s.setError i e).running = s.running := by unfold State.setError; split <;> rfl
@[simp] theorem setError_taskAlive (s : State) (i : Fin Config.MAX_SLAVES) (e : ErrCode) : (s.setError i e).taskAlive = s.taskAlive := by unfold State.setError; split <;> rfl
@[simp] theorem setError_schedPhase (s : State) (i : Fin Config.MAX_SLAVES) (e : ErrCode) : (s.setError i e).schedPhase = s.schedPhase := by unfold State.setError; split <;> rfl
@[simp] theorem setError_scanI (s : State) (i : Fin Config.MAX_SLAVES) (e : ErrCode) : (s.setError i e).scanI = s.scanI := by unfold State.setError; split <;> rfl
@[simp] theorem setError_wakeAt (s : State) (i : Fin Config.MAX_SLAVES) (e : ErrCode) : (s.setError i e).wakeAt = s.wakeAt := by unfold State.setError; split <;> rfl
@[simp] theorem setError_poll (s : State) (i : Fin Config.MAX_SLAVES) (e : ErrCode) : (s.setError i e).poll = s.poll := by unfold State.setError; split <;> rfl
@[simp] theorem setError_time (s : State) (i : Fin Config.MAX_SLAVES) (e : ErrCode) : (s.setError i e).time = s.time := by unfold State.setError; split <;> rfl
@[simp] theorem setError_txStream (s : State) (i : Fin Config.MAX_SLAVES) (e : ErrCode) : (s.setError i e).txStream = s.txStream := by unfold State.setError; split <;> rfl
@[simp] theorem setError_deLog (s : State) (i : Fin Config.MAX_SLAVES) (e : ErrCode) : (s.setError i e).deLog = s.deLog := by unfold State.setError; split <;> rfl
@[simp] theorem setError_baud (s : State) (i : Fin Config.MAX_SLAVES) (e : ErrCode) : (s.setError i e).baud = s.baud := by unfold State.setError; split <;> rfl
@[simp] theorem setError_result (s : State) (i : Fin Config.MAX_SLAVES) (e : ErrCode) : (s.setError i e).result = s.result := by unfold State.setError; split <;> rfl
@[simp] theorem setError_inputs (s : State) (i : Fin Config.MAX_SLAVES) (e : ErrCode) : (s.setError i e).inputs = s.inputs := by unfold State.setError; split <;> rfl
@[simp] theorem setError_draws (s : State) (i : Fin Config.MAX_SLAVES) (e : ErrCode) : (s.setError i e).draws = s.draws := by unfold State.setError; split <;> rfl

/-! `State.failPoll` writes only: slots, scanI, schedPhase. -/

@[simp] theorem failPoll_de (s : State) (e : ErrCode) : (s.failPoll e).de = s.de := by simp [State.failPoll]
@[simp] theorem failPoll_tphase (s : State) (e : ErrCode) : (s.failPoll e).tphase = s.tphase := by simp [State.failPoll]
@[simp] theorem failPoll_txDataEnd (s : State) (e : ErrCode) : (s.failPoll e).txDataEnd = s.txDataEnd := by simp [State.failPoll]
@[simp] theorem failPoll_deTimer (s : State) (e : ErrCode) : (s.failPoll e).deTimer = s.deTimer := by simp [State.failPoll]
@[simp] theorem failPoll_busWait (s : State) (e : ErrCode) : (s.failPoll e).busWait = s.busWait := by simp [State.failPoll]
@[simp] theorem failPoll_rxOp (s : State) (e : ErrCode) : (s.failPoll e).rxOp = s.rxOp := by simp [State.failPoll]
@[simp] theorem failPoll_slaveCount (s : State) (e : ErrCode) : (s.failPoll e).slaveCount = s.slaveCount := by simp [State.failPoll]
@[simp] theorem failPoll_regLock (s : State) (e : ErrCode) : (s.failPoll e).regLock = s.regLock := by simp [State.failPoll]
@[simp] theorem failPoll_running (s : State) (e : ErrCode) : (s.failPoll e).running = s.running := by simp [State.failPoll]
@[simp] theorem failPoll_taskAlive (s : State) (e : ErrCode) : (s.failPoll e).taskAlive = s.taskAlive := by simp [State.failPoll]
@[simp] theorem failPoll_wakeAt (s : State) (e : ErrCode) : (s.failPoll e).wakeAt = s.wakeAt := by simp [State.failPoll]
@[simp] theorem failPoll_poll (s : State) (e : ErrCode) : (s.failPoll e).poll = s.poll := by simp [State.failPoll]
@[simp] theorem failPoll_time (s : State) (e : ErrCode) : (s.failPoll e).time = s.time := by simp [State.failPoll]
@[simp] theorem failPoll_txStream (s : State) (e : ErrCode) : (s.failPoll e).txStream = s.txStream := by simp [State.failPoll]
@[simp] theorem failPoll_deLog (s : State) (e : ErrCode) : (s.failPoll e).deLog = s.deLog := by simp [State.failPoll]
@[simp] theorem failPoll_baud (s : State) (e : ErrCode) : (s.failPoll e).baud = s.baud := by simp [State.failPoll]
@[simp] theorem failPoll_result (s : State) (e : ErrCode) : (s.failPoll e).result = s.result := by simp [State.failPoll]
@[simp] theorem failPoll_inputs (s : State) (e : ErrCode) : (s.failPoll e).inputs = s.inputs := by simp [State.failPoll]
@[simp] theorem failPoll_draws (s : State) (e : ErrCode) : (s.failPoll e).draws = s.draws := by simp [State.failPoll]

/-! `State.pollFinish` writes only: slots, scanI, schedPhase. -/

@[simp] theorem pollFinish_de (s : State) : (s.pollFinish).de = s.de := by
  unfold State.pollFinish; (repeat' split) <;> simp
@[simp] theorem pollFinish_tphase (s : State) : (s.pollFinish).tphase = s.tphase := by
  unfold State.pollFinish; (repeat' split) <;> simp
@[simp] theorem pollFinish_txDataEnd (s : State) : (s.pollFinish).txDataEnd = s.txDataEnd := by
  unfold State.pollFinish; (repeat' split) <;> simp
@[simp] theorem pollFinish_deTimer (s : State) : (s.pollFinish).deTimer = s.deTimer := by
  unfold State.pollFinish; (repeat' split) <;> simp
@[simp] theorem pollFinish_busWait (s : State) : (s.pollFinish).busWait = s.busWait := by
  unfold State.pollFinish; (repeat' split) <;> simp
@[simp] theorem pollFinish_rxOp (s : State) : (s.pollFinish).rxOp = s.rxOp := by
  unfold State.pollFinish; (repeat' split) <;> simp
@[simp] theorem pollFinish_slaveCount (s : State) : (s.pollFinish).slaveCount = s.slaveCount := by
  unfold State.pollFinish; (repeat' split) <;> simp
@[simp] theorem pollFinish_regLock (s : State) : (s.pollFinish).regLock = s.regLock := by
  unfold State.pollFinish; (repeat' split) <;> simp
@[simp] theorem pollFinish_running (s : State) : (s.pollFinish).running = s.running := by
  unfold State.pollFinish; (repeat' split) <;> simp
@[simp] theorem pollFinish_taskAlive (s : State) : (s.pollFinish).taskAlive = s.taskAlive := by
  unfold State.pollFinish; (repeat' split) <;> simp
@[simp] theorem pollFinish_wakeAt (s : State) : (s.pollFinish).wakeAt = s.wakeAt := by
  unfold State.pollFinish; (repeat' split) <;> simp
@[simp] theorem pollFinish_poll (s : State) : (s.pollFinish).poll = s.poll := by
  unfold State.pollFinish; (repeat' split) <;> simp
@[simp] theorem pollFinish_time (s : State) : (s.pollFinish).time = s.time := by
  unfold State.pollFinish; (repeat' split) <;> simp
@[simp] theorem pollFinish_txStream (s : State) : (s.pollFinish).txStream = s.txStream := by
  unfold State.pollFinish; (repeat' split) <;> simp
@[simp] theorem pollFinish_deLog (s : State) : (s.pollFinish).deLog = s.deLog := by
  unfold State.pollFinish; (repeat' split) <;> simp
@[simp] theorem pollFinish_baud (s : State) : (s.pollFinish).baud = s.baud := by
  unfold State.pollFinish; (repeat' split) <;> simp
@[simp] theorem pollFinish_result (s : State) : (s.pollFinish).result = s.result := by
  unfold State.pollFinish; (repeat' split) <;> simp
@[simp] theorem pollFinish_inputs (s : State) : (s.pollFinish).inputs = s.inputs := by
  unfold State.pollFinish; (repeat' split) <;> simp
@[simp] theorem pollFinish_draws (s : State) : (s.pollFinish).draws = s.draws := by
  unfold State.pollFinish; (repeat' split) <;> simp

/-! `State.transmitReturns` writes only: result, poll. -/

@[simp] theorem transmitReturns_de (s : State) (c : Caller) : (s.transmitReturns c).de = s.de := by cases c <;> rfl
@[simp] theorem transmitReturns_tphase (s : State) (c : Caller) : (s.transmitReturns c).tphase = s.tphase := by cases c <;> rfl
@[simp] theorem transmitReturns_txDataEnd (s : State) (c : Caller) : (s.transmitReturns c).txDataEnd = s.txDataEnd := by cases c <;> rfl
@[simp] theorem transmitReturns_deTimer (s : State) (c : Caller) : (s.transmitReturns c).deTimer = s.deTimer := by cases c <;> rfl
@[simp] theorem transmitReturns_busWait (s : State) (c : Caller) : (s.transmitReturns c).busWait = s.busWait := by cases c <;> rfl
@[simp] theorem transmitReturns_rxOp (s : State) (c : Caller) : (s.transmitReturns c).rxOp = s.rxOp := by cases c <;> rfl
@[simp] theorem transmitReturns_slots (s : State) (c : Caller) : (s.transmitReturns c).slots = s.slots := by cases c <;> rfl
@[simp] theorem transmitReturns_slaveCount (s : State) (c : Caller) : (s.transmitReturns c).slaveCount = s.slaveCount := by cases c <;> rfl
@[simp] theorem transmitReturns_regLock (s : State) (c : Caller) : (s.transmitReturns c).regLock = s.regLock := by cases c <;> rfl
@[simp] theorem transmitReturns_running (s : State) (c : Caller) : (s.transmitReturns c).running = s.running := by cases c <;> rfl
@[simp] theorem transmitReturns_taskAlive (s : State) (c : Caller) : (s.transmitReturns c).taskAlive = s.taskAlive := by cases c <;> rfl
@[simp] theorem transmitReturns_schedPhase (s : State) (c : Caller) : (s.transmitReturns c).schedPhase = s.schedPhase := by cases c <;> rfl
@[simp] theorem transmitReturns_scanI (s : State) (c : Caller) : (s.transmitReturns c).scanI = s.scanI := by cases c <;> rfl
@[simp] theorem transmitReturns_wakeAt (s : State) (c : Caller) : (s.transmitReturns c).wakeAt = s.wakeAt := by cases c <;> rfl
@[simp] theorem transmitReturns_time (s : State) (c : Caller) : (s.transmitReturns c).time = s.time := by cases c <;> rfl
@[simp] theorem transmitReturns_txStream (s : State) (c : Caller) : (s.transmitReturns c).txStream = s.txStream := by cases c <;> rfl
@[simp] theorem transmitReturns_deLog (s : State) (c : Caller) : (s.transmitReturns c).deLog = s.deLog := by cases c <;> rfl
@[simp] theorem transmitReturns_baud (s : State) (c : Caller) : (s.transmitReturns c).baud = s.baud := by cases c <;> rfl
@[simp] theorem transmitReturns_inputs (s : State) (c : Caller) : (s.transmitReturns c).inputs = s.inputs := by cases c <;> rfl
@[simp] theorem transmitReturns_draws (s : State) (c : Caller) : (s.transmitReturns c).draws = s.draws := by cases c <;> rfl

/-! `State.grant` writes only: de, deLog, txStream, tphase, txDataEnd, deTimer, result, poll. -/

@[simp] theorem grant_busWait (s : State) (c : Caller) (f : List Byte) : (s.grant c f).busWait = s.busWait := by simp [State.grant]
@[simp] theorem grant_rxOp (s : State) (c : Caller) (f : List Byte) : (s.grant c f).rxOp = s.rxOp := by simp [State.grant]
@[simp] theorem grant_slots (s : State) (c : Caller) (f : List Byte) : (s.grant c f).slots = s.slots := by simp [State.grant]
@[simp] theorem grant_slaveCount (s : State) (c : Caller) (f : List Byte) : (s.grant c f).slaveCount = s.slaveCount := by simp [State.grant]
@[simp] theorem grant_regLock (s : State) (c : Caller) (f : List Byte) : (s.grant c f).regLock = s.regLock := by simp [State.grant]
@[simp] theorem grant_running (s : State) (c : Caller) (f : List Byte) : (s.grant c f).running = s.running := by simp [State.grant]
@[simp] theorem grant_taskAlive (s : State) (c : Caller) (f : List Byte) : (s.grant c f).taskAlive = s.taskAlive := by simp [State.grant]
@[simp] theorem grant_schedPhase (s : State) (c : Caller) (f : List Byte) : (s.grant c f).schedPhase = s.schedPhase := by simp [State.grant]
@[simp] theorem grant_scanI (s : State) (c : Caller) (f : List Byte) : (s.grant c f).scanI = s.scanI := by simp [State.grant]
@[simp] theorem grant_wakeAt (s : State) (c : Caller) (f : List Byte) : (s.grant c f).wakeAt = s.wakeAt := by simp [State.grant]
@[simp] theorem grant_time (s : State) (c : Caller) (f : List Byte) : (s.grant c f).time = s.time := by simp [State.grant]
@[simp] theorem grant_baud (s : State) (c : Caller) (f : List Byte) : (s.grant c f).baud = s.baud := by simp [State.grant]
@[simp] theorem grant_inputs (s : State) (c : Caller) (f : List Byte) : (s.grant c f).inputs = s.inputs := by simp [State.grant]
@[simp] theorem grant_draws (s : State) (c : Caller) (f : List Byte) : (s.grant c f).draws = s.draws := by simp [State.grant]

/-! `State.completeReceive` writes only: rxOp, result, poll. -/

@[simp] theorem completeReceive_de (s : State) (c : Caller) (bs : List Byte) : (s.completeReceive c bs).de = s.de := by cases c <;> rfl
@[simp] theorem completeReceive_tphase (s : State) (c : Caller) (bs : List Byte) : (s.completeReceive c bs).tphase = s.tphase := by cases c <;> rfl
@[simp] theorem completeReceive_txDataEnd (s : State) (c : Caller) (bs : List Byte) : (s.completeReceive c bs).txDataEnd = s.txDataEnd := by cases c <;> rfl
@[simp] theorem completeReceive_deTimer (s : State) (c : Caller) (bs : List Byte) : (s.completeReceive c bs).deTimer = s.deTimer := by cases c <;> rfl
@[simp] theorem completeReceive_busWait (s : State) (c : Caller) (bs : List Byte) : (s.completeReceive c bs).busWait = s.busWait := by cases c <;> rfl
@[simp] theorem completeReceive_slots (s : State) (c : Caller) (bs : List Byte) : (s.completeReceive c bs).slots = s.slots := by cases c <;> rfl
@[simp] theorem completeReceive_slaveCount (s : State) (c : Caller) (bs : List Byte) : (s.completeReceive c bs).slaveCount = s.slaveCount := by cases c <;> rfl
@[simp] theorem completeReceive_regLock (s : State) (c : Caller) (bs : List Byte) : (s.completeReceive c bs).regLock = s.regLock := by cases c <;> rfl
@[simp] theorem completeReceive_running (s : State) (c : Caller) (bs : List Byte) : (s.completeReceive c bs).running = s.running := by cases c <;> rfl
@[simp] theorem completeReceive_taskAlive (s : State) (c : Caller) (bs : List Byte) : (s.completeReceive c bs).taskAlive = s.taskAlive := by cases c <;> rfl
@[simp] theorem completeReceive_schedPhase (s : State) (c : Caller) (bs : List Byte) : (s.completeReceive c bs).schedPhase = s.schedPhase := by cases c <;> rfl
@[simp] theorem completeReceive_scanI (s : State) (c : Caller) (bs : List Byte) : (s.completeReceive c bs).scanI = s.scanI := by cases c <;> rfl
@[simp] theorem completeReceive_wakeAt (s : State) (c : Caller) (bs : List Byte) : (s.completeReceive c bs).wakeAt = s.wakeAt := by cases c <;> rfl
@[simp] theorem completeReceive_time (s : State) (c : Caller) (bs : List Byte) : (s.completeReceive c bs).time = s.time := by cases c <;> rfl
@[simp] theorem completeReceive_txStream (s : State) (c : Caller) (bs : List Byte) : (s.completeReceive c bs).txStream = s.txStream := by cases c <;> rfl
@[simp] theorem completeReceive_deLog (s : State) (c : Caller) (bs : List Byte) : (s.completeReceive c bs).deLog = s.deLog := by cases c <;> rfl
@[simp] theorem completeReceive_baud (s : State) (c : Caller) (bs : List Byte) : (s.completeReceive c bs).baud = s.baud := by cases c <;> rfl
@[simp] theorem completeReceive_inputs (s : State) (c : Caller) (bs : List Byte) : (s.completeReceive c bs).inputs = s.inputs := by cases c <;> rfl
@[simp] theorem completeReceive_draws (s : State) (c : Caller) (bs : List Byte) : (s.completeReceive c bs).draws = s.draws := by cases c <;> rfl

/-! `State.deliver` writes only: rxOp, result, poll. -/

@[simp] theorem deliver_de (s : State) (bs : List Byte) : (s.deliver bs).de = s.de := by
  unfold State.deliver; dsimp only; (repeat' split) <;> simp
@[simp] theorem deliver_tphase (s : State) (bs : List Byte) : (s.deliver bs).tphase = s.tphase := by
  unfold State.deliver; dsimp only; (repeat' split) <;> simp
@[simp] theorem deliver_txDataEnd (s : State) (bs : List Byte) : (s.deliver bs).txDataEnd = s.txDataEnd := by
  unfold State.deliver; dsimp only; (repeat' split) <;> simp
@[simp] theorem deliver_deTimer (s : State) (bs : List Byte) : (s.deliver bs).deTimer = s.deTimer := by
  unfold State.deliver; dsimp only; (repeat' split) <;> simp
@[simp] theorem deliver_busWait (s : State) (bs : List Byte) : (s.deliver bs).busWait = s.busWait := by
  unfold State.deliver; dsimp only; (repeat' split) <;> simp
@[simp] theorem deliver_slots (s : State) (bs : List Byte) : (s.deliver bs).slots = s.slots := by
  unfold State.deliver; dsimp only; (repeat' split) <;> simp
@[simp] theorem deliver_slaveCount (s : State) (bs : List Byte) : (s.deliver bs).slaveCount = s.slaveCount := by
  unfold State.deliver; dsimp only; (repeat' split) <;> simp
@[simp] theorem deliver_regLock (s : State) (bs : List Byte) : (s.deliver bs).regLock = s.regLock := by
  unfold State.deliver; dsimp only; (repeat' split) <;> simp
@[simp] theorem deliver_running (s : State) (bs : List Byte) : (s.deliver bs).running = s.running := by
  unfold State.deliver; dsimp only; (repeat' split) <;> simp
@[simp] theorem deliver_taskAlive (s : State) (bs : List Byte) : (s.deliver bs).taskAlive = s.taskAlive := by
  unfold State.deliver; dsimp only; (repeat' split) <;> simp
@[simp] theorem deliver_schedPhase (s : State) (bs : List Byte) : (s.deliver bs).schedPhase = s.schedPhase := by
  unfold State.deliver; dsimp only; (repeat' split) <;> simp
@[simp] theorem deliver_scanI (s : State) (bs : List Byte) : (s.deliver bs).scanI = s.scanI := by
  unfold State.deliver; dsimp only; (repeat' split) <;> simp
@[simp] theorem deliver_wakeAt (s : State) (bs : List Byte) : (s.deliver bs).wakeAt = s.wakeAt := by
  unfold State.deliver; dsimp only; (repeat' split) <;> simp
@[simp] theorem deliver_time (s : State) (bs : List Byte) : (s.deliver bs).time = s.time := by
  unfold State.deliver; dsimp only; (repeat' split) <;> simp
@[simp] theorem deliver_txStream (s : State) (bs : List Byte) : (s.deliver bs).txStream = s.txStream := by
  unfold State.deliver; dsimp only; (repeat' split) <;> simp
@[simp] theorem deliver_deLog (s : State) (bs : List Byte) : (s.deliver bs).deLog = s.deLog := by
  unfold State.deliver; dsimp only; (repeat' split) <;> simp
@[simp] theorem deliver_baud (s : State) (bs : List Byte) : (s.deliver bs).baud = s.baud := by
  unfold State.deliver; dsimp only; (repeat' split) <;> simp
@[simp] theorem deliver_inputs (s : State) (bs : List Byte) : (s.deliver bs).inputs = s.inputs := by
  unfold State.deliver; dsimp only; (repeat' split) <;> simp
@[simp] theorem deliver_draws (s : State) (bs : List Byte) : (s.deliver bs).draws = s.draws := by
  unfold State.deliver; dsimp only; (repeat' split) <;> simp

/-! `State.releaseDe` writes only: de, deLog, deTimer, tphase. -/

@[simp] theorem releaseDe_txDataEnd (s : State) : (s.releaseDe).txDataEnd = s.txDataEnd := rfl
@[simp] theorem releaseDe_busWait (s : State) : (s.releaseDe).busWait = s.busWait := rfl
@[simp] theorem releaseDe_rxOp (s : State) : (s.releaseDe).rxOp = s.rxOp := rfl
@[simp] theorem releaseDe_slots (s : State) : (s.releaseDe).slots = s.slots := rfl
@[simp] theorem releaseDe_slaveCount (s : State) : (s.releaseDe).slaveCount = s.slaveCount := rfl
@[simp] theorem releaseDe_regLock (s : State) : (s.releaseDe).regLock = s.regLock := rfl
@[simp] theorem releaseDe_running (s : State) : (s.releaseDe).running = s.running := rfl
@[simp] theorem releaseDe_taskAlive (s : State) : (s.releaseDe).taskAlive = s.taskAlive := rfl
@[simp] theorem releaseDe_schedPhase (s : State) : (s.releaseDe).schedPhase = s.schedPhase := rfl
@[simp] theorem releaseDe_scanI (s : State) : (s.releaseDe).scanI = s.scanI := rfl
@[simp] theorem releaseDe_wakeAt (s : State) : (s.releaseDe).wakeAt = s.wakeAt := rfl
@[simp] theorem releaseDe_poll (s : State) : (s.releaseDe).poll = s.poll := rfl
@[simp] theorem releaseDe_time (s : State) : (s.releaseDe).time = s.time := rfl
@[simp] theorem releaseDe_txStream (s : State) : (s.releaseDe).txStream = s.txStream := rfl
@[simp] theorem releaseDe_baud (s : State) : (s.releaseDe).baud = s.baud := rfl
@[simp] theorem releaseDe_result (s : State) : (s.releaseDe).result = s.result := rfl
@[simp] theorem releaseDe_inputs (s : State) : (s.releaseDe).inputs = s.inputs := rfl
@[simp] theorem releaseDe_draws (s : State) : (s.releaseDe).draws = s.draws := rfl

/-! `State.beginPoll` writes only: schedPhase, poll. -/

@[simp] theorem beginPoll_de (s : State) (i : Fin Config.MAX_SLAVES) (now : U32) : (s.beginPoll i now).de = s.de := rfl
@[simp] theorem beginPoll_tphase (s : State) (i : Fin Config.MAX_SLAVES) (now : U32) : (s.beginPoll i now).tphase = s.tphase := rfl
@[simp] theorem beginPoll_txDataEnd (s : State) (i : Fin Config.MAX_SLAVES) (now : U32) : (s.beginPoll i now).txDataEnd = s.txDataEnd := rfl
@[simp] theorem beginPoll_deTimer (s : State) (i : Fin Config.MAX_SLAVES) (now : U32) : (s.beginPoll i now).deTimer = s.deTimer := rfl
@[simp] theorem beginPoll_busWait (s : State) (i : Fin Config.MAX_SLAVES) (now : U32) : (s.beginPoll i now).busWait = s.busWait := rfl
@[simp] theorem beginPoll_rxOp (s : State) (i : Fin Config.MAX_SLAVES) (now : U32) : (s.beginPoll i now).rxOp = s.rxOp := rfl
@[simp] theorem beginPoll_slots (s : State) (i : Fin Config.MAX_SLAVES) (now : U32) : (s.beginPoll i now).slots = s.slots := rfl
@[simp] theorem beginPoll_slaveCount (s : State) (i : Fin Config.MAX_SLAVES) (now : U32) : (s.beginPoll i now).slaveCount = s.slaveCount := rfl
@[simp] theorem beginPoll_regLock (s : State) (i : Fin Config.MAX_SLAVES) (now : U32) : (s.beginPoll i now).regLock = s.regLock := rfl
@[simp] theorem beginPoll_running (s : State) (i : Fin Config.MAX_SLAVES) (now : U32) : (s.beginPoll i now).running = s.running := rfl
@[simp] theorem beginPoll_taskAlive (s : State) (i : Fin Config.MAX_SLAVES) (now : U32) : (s.beginPoll i now).taskAlive = s.taskAlive := rfl
@[simp] theorem beginPoll_scanI (s : State) (i : Fin Config.MAX_SLAVES) (now : U32) : (s.beginPoll i now).scanI = s.scanI := rfl
@[simp] theorem beginPoll_wakeAt (s : State) (i : Fin Config.MAX_SLAVES) (now : U32) : (s.beginPoll i now).wakeAt = s.wakeAt := rfl
@[simp] theorem beginPoll_time (s : State) (i : Fin Config.MAX_SLAVES) (now : U32) : (s.beginPoll i now).time = s.time := rfl
@[simp] theorem beginPoll_txStream (s : State) (i : Fin Config.MAX_SLAVES) (now : U32) : (s.beginPoll i now).txStream = s.txStream := rfl
@[simp] theorem beginPoll_deLog (s : State) (i : Fin Config.MAX_SLAVES) (now : U32) : (s.beginPoll i now).deLog = s.deLog := rfl
@[simp] theorem beginPoll_baud (s : State) (i : Fin Config.MAX_SLAVES) (now : U32) : (s.beginPoll i now).baud = s.baud := rfl
@[simp] theorem beginPoll_result (s : State) (i : Fin Config.MAX_SLAVES) (now : U32) : (s.beginPoll i now).result = s.result := rfl
@[simp] theorem beginPoll_inputs (s : State) (i : Fin Config.MAX_SLAVES) (now : U32) : (s.beginPoll i now).inputs = s.inputs := rfl
@[simp] theorem beginPoll_draws (s : State) (i : Fin Config.MAX_SLAVES) (now : U32) : (s.beginPoll i now).draws = s.draws := rfl

/-! `State.passInput` writes only: inputs. -/

@[simp] theorem passInput_de (s : State) : (s.passInput).de = s.de := by unfold State.passInput; (repeat' split) <;> rfl
@[simp] theorem passInput_tphase (s : State) : (s.passInput).tphase = s.tphase := by unfold State.passInput; (repeat' split) <;> rfl
@[simp] theorem passInput_txDataEnd (s : State) : (s.passInput).txDataEnd = s.txDataEnd := by unfold State.passInput; (repeat' split) <;> rfl
@[simp] theorem passInput_deTimer (s : State) : (s.passInput).deTimer = s.deTimer := by unfold State.passInput; (repeat' split) <;> rfl
@[simp] theorem passInput_busWait (s : State) : (s.passInput).busWait = s.busWait := by unfold State.passInput; (repeat' split) <;> rfl
@[simp] theorem passInput_rxOp (s : State) : (s.passInput).rxOp = s.rxOp := by unfold State.passInput; (repeat' split) <;> rfl
@[simp] theorem passInput_slots (s : State) : (s.passInput).slots = s.slots := by unfold State.passInput; (repeat' split) <;> rfl
@[simp] theorem passInput_slaveCount (s : State) : (s.passInput).slaveCount = s.slaveCount := by unfold State.passInput; (repeat' split) <;> rfl
@[simp] theorem passInput_regLock (s : State) : (s.passInput).regLock = s.regLock := by unfold State.passInput; (repeat' split) <;> rfl
@[simp] theorem passInput_running (s : State) : (s.passInput).running = s.running := by unfold State.passInput; (repeat' split) <;> rfl
@[simp] theorem passInput_taskAlive (s : State) : (s.passInput).taskAlive = s.taskAlive := by unfold State.passInput; (repeat' split) <;> rfl
@[simp] theorem passInput_schedPhase (s : State) : (s.passInput).schedPhase = s.schedPhase := by unfold State.passInput; (repeat' split) <;> rfl
@[simp] theorem passInput_scanI (s : State) : (s.passInput).scanI = s.scanI := by unfold State.passInput; (repeat' split) <;> rfl
@[simp] theorem passInput_wakeAt (s : State) : (s.passInput).wakeAt = s.wakeAt := by unfold State.passInput; (repeat' split) <;> rfl
@[simp] theorem passInput_poll (s : State) : (s.passInput).poll = s.poll := by unfold State.passInput; (repeat' split) <;> rfl
@[simp] theorem passInput_time (s : State) : (s.passInput).time = s.time := by unfold State.passInput; (repeat' split) <;> rfl
@[simp] theorem passInput_txStream (s : State) : (s.passInput).txStream = s.txStream := by unfold State.passInput; (repeat' split) <;> rfl
@[simp] theorem passInput_deLog (s : State) : (s.passInput).deLog = s.deLog := by unfold State.passInput; (repeat' split) <;> rfl
@[simp] theorem passInput_baud (s : State) : (s.passInput).baud = s.baud := by unfold State.passInput; (repeat' split) <;> rfl
@[simp] theorem passInput_result (s : State) : (s.passInput).result = s.result := by unfold State.passInput; (repeat' split) <;> rfl
@[simp] theorem passInput_draws (s : State) : (s.passInput).draws = s.draws := by unfold State.passInput; (repeat' split) <;> rfl

/-! What a grant writes (42_bus_transport.md R129), whoever asked for it. -/

@[simp] theorem grant_de (s : State) (c : Caller) (f : List Byte) : (s.grant c f).de = true := by cases c <;> rfl
@[simp] theorem grant_deLog (s : State) (c : Caller) (f : List Byte) :
    (s.grant c f).deLog = s.deLog ++ [(s.time, true)] := by cases c <;> rfl
@[simp] theorem grant_txStream (s : State) (c : Caller) (f : List Byte) :
    (s.grant c f).txStream = s.txStream ++ [(s.time, f)] := by cases c <;> rfl
@[simp] theorem grant_tphase (s : State) (c : Caller) (f : List Byte) : (s.grant c f).tphase = .transmitting := by
  cases c <;> rfl
@[simp] theorem grant_txDataEnd (s : State) (c : Caller) (f : List Byte) :
    (s.grant c f).txDataEnd = s.time + txDataUs s.baud f.length := by cases c <;> rfl
@[simp] theorem grant_deTimer (s : State) (c : Caller) (f : List Byte) :
    (s.grant c f).deTimer = ⟨true, s.time + txTimeUs s.baud f.length⟩ := by cases c <;> rfl
@[simp] theorem grant_bench_poll (s : State) (f : List Byte) : (s.grant .bench f).poll = s.poll := rfl
@[simp] theorem grant_scheduler_poll (s : State) (f : List Byte) :
    (s.grant .scheduler f).poll = { s.poll with step := .granted } := rfl
@[simp] theorem completeReceive_bench_poll (s : State) (bs : List Byte) : (s.completeReceive .bench bs).poll = s.poll := rfl
@[simp] theorem completeReceive_scheduler_poll (s : State) (bs : List Byte) :
    (s.completeReceive .scheduler bs).poll = { s.poll with rxbuf := bs, step := .received } := rfl

/-! The slot table. -/

@[simp] theorem slot_setSlot_self (s : State) (i : Fin Config.MAX_SLAVES) (x : SlaveState) : (s.setSlot i x).slot i = x := by
  simp [State.slot]

theorem slot_setSlot_ne (s : State) {i j : Fin Config.MAX_SLAVES} (x : SlaveState) (h : j ≠ i) :
    (s.setSlot i x).slot j = s.slot j := by
  have : i.val ≠ j.val := fun e => h (Fin.ext e.symm)
  simp [State.slot, this]

theorem slot_setSlot (s : State) (i j : Fin Config.MAX_SLAVES) (x : SlaveState) :
    (s.setSlot i x).slot j = if j = i then x else s.slot j := by
  by_cases h : j = i
  · subst h; simp
  · simp [h, slot_setSlot_ne]

/-- Reading a slot depends on the slot table only. -/
theorem slot_congr {s t : State} (h : s.slots = t.slots) (i : Fin Config.MAX_SLAVES) : s.slot i = t.slot i := by
  simp [State.slot, h]

/-- Two slot tables with equal slots are equal. -/
theorem slots_ext {s t : State} (h : ∀ i, s.slot i = t.slot i) : s.slots = t.slots :=
  Vector.ext fun i hi => h ⟨i, hi⟩

theorem slot_setSnap (s : State) (i j : Fin Config.MAX_SLAVES) (n : Snapshot) :
    (s.setSnap i n).slot j = if j = i then { s.slot i with snap := n } else s.slot j := slot_setSlot ..

theorem slot_setError (s : State) (i j : Fin Config.MAX_SLAVES) (e : ErrCode) :
    (s.setError i e).slot j = if j = i ∧ s.regLock = .free then
      { s.slot i with snap := { (s.slot i).snap with lastError := e } } else s.slot j := by
  unfold State.setError; split <;> simp [*, slot_setSnap]

theorem slot_publish (s : State) (i j : Fin Config.MAX_SLAVES) (vals : List U16) (n : Nat) :
    (s.publish i vals n).slot j = if j = i ∧ s.regLock = .free then
      { s.slot i with snap := (s.slot i).snap.publish vals n (tickMs s.time) } else s.slot j := by
  unfold State.publish; split <;> simp [*, slot_setSnap]

theorem slot_endPoll (s : State) (j : Fin Config.MAX_SLAVES) :
    s.endPoll.slot j = if j = s.poll.slot then { s.slot s.poll.slot with lastPollTick := s.poll.now } else s.slot j :=
  slot_setSlot ..

theorem slot_failPoll (s : State) (e : ErrCode) (j : Fin Config.MAX_SLAVES) :
    (s.failPoll e).slot j = if j = s.poll.slot then
      { s.slot s.poll.slot with
        lastPollTick := s.poll.now
        snap := if s.regLock = .free then { (s.slot s.poll.slot).snap with lastError := e } else (s.slot s.poll.slot).snap }
      else s.slot j := by
  by_cases h : j = s.poll.slot <;> by_cases g : s.regLock = .free <;> simp [State.failPoll, slot_endPoll, slot_setError, h, g]

end Sys2Proof.Machine
end

