-- ==== Sys2Proof/Laws/Registry.lean ====
section
/-! SUPPORT. What the slot table's shared operations do, said once: finding a slot, recording an error, publishing. -/

namespace Sys2Proof.Machine

theorem slotOf_val (i : Fin 32) : slotOf (i.val : Int) = some i := by
  unfold slotOf
  rw [dif_pos ⟨by omega, by omega⟩]
  rfl

theorem slotOf_out {k : Int} (h : k < 0 ∨ 31 < k) : slotOf k = none := by
  unfold slotOf
  rw [dif_neg (by omega)]

theorem usedSlot_val (s : State) (i : Fin 32) : s.usedSlot (i.val : Int) = if (s.slot i).inUse then some i else none := by
  unfold State.usedSlot
  rw [slotOf_val]

/-- An index that REGISTER may use: the lowest free one. -/
theorem firstFree_iff {s : State} {i : Fin 32} :
    s.firstFree = some i ↔ (s.slot i).inUse = false ∧ ∀ j, j < i → (s.slot j).inUse = true := by
  unfold State.firstFree
  rw [List.find?_eq_some_iff_getElem]
  simp only [List.getElem_finRange, Bool.not_eq_true', Bool.not_not]
  constructor
  · rintro ⟨h, k, hk, rfl, h2⟩
    exact ⟨h, fun j hj => by simpa using h2 j.val hj⟩
  · rintro ⟨h, h2⟩
    exact ⟨h, i.val, by simp, by simp, fun j hj => by simpa using h2 ⟨j, by omega⟩ hj⟩

/-- An error recorded on the polled slot changes that slot, the scan register and the phase (60_exceptions.md R209). -/
theorem failPoll_eq (s : State) (e : ErrCode) :
    s.failPoll e = { s with slots := (s.failPoll e).slots, scanI := s.poll.slot.succ, schedPhase := .scanning } := by
  unfold State.failPoll State.setError State.setSnap State.endPoll State.setSlot
  split <;> rfl

/-- A publish, then the end of the transaction, likewise. -/
theorem publishEnd_eq (s : State) (i : Fin Config.MAX_SLAVES) (vals : List U16) (n : Nat) :
    (s.publish i vals n).endPoll = { s with
      slots := (s.publish i vals n).endPoll.slots, scanI := s.poll.slot.succ, schedPhase := .scanning } := by
  unfold State.publish State.setSnap State.endPoll State.setSlot
  split <;> rfl

/-- The words a publish writes, and those it leaves (43_registry.md R158). -/
theorem writeWords_toList (v : Vector U16 Config.SNAP_CAP) (l : List U16) (k : Nat) (h : k + l.length ≤ 64) :
    (writeWords v k l).toList = v.toList.take k ++ l ++ v.toList.drop (k + l.length) := by
  induction l generalizing v k with
  | nil => simp [writeWords]
  | cons x xs ih =>
    simp only [List.length_cons] at h
    have h1 : (v.setIfInBounds k x).toList = v.toList.set k x := by rw [Vector.toList_setIfInBounds]
    have hl : v.toList.length = 64 := by simp
    rw [writeWords, ih _ _ (by omega), h1, List.take_set, List.drop_set, if_pos (by omega), List.length_cons, List.take_add_one,
      List.getElem?_eq_getElem (by omega), List.set_append]
    simp [show k < 64 by omega]
    rw [Nat.min_eq_left (show k ≤ Config.SNAP_CAP by show k ≤ 64; omega), Nat.sub_self, Nat.add_assoc, Nat.add_comm 1]
    rfl

/-- Counting the used slots: one more or one fewer when one slot changes. -/
theorem countP_finRange_update {n : Nat} (i : Fin n) (p q : Fin n → Bool) (h : ∀ j, j ≠ i → p j = q j) (hp : p i = false)
    (hq : q i = true) : (List.finRange n).countP q = (List.finRange n).countP p + 1 := by
  suffices H : ∀ l : List (Fin n), l.Nodup → i ∈ l → l.countP q = l.countP p + 1 from
    H _ (List.nodup_finRange n) (List.mem_finRange i)
  intro l hn hi
  induction l with
  | nil => cases hi
  | cons a as ih =>
    rw [List.nodup_cons] at hn
    by_cases ha : a = i
    · subst ha
      have : as.countP p = as.countP q := List.countP_congr fun x hx => by
        have : x ≠ a := fun e => hn.1 (e ▸ hx)
        rw [h x this]
      simp [hp, hq, this]
    · have := ih hn.2 (by simpa [Ne.symm ha] using hi)
      rw [List.countP_cons, List.countP_cons, this, h a ha]
      omega

end Sys2Proof.Machine
end

