-- ==== Sys2Proof/Laws/Transition.lean ====
section
/-! SUPPORT. Everything one transition can do, said once (`Trans`), and that `exec` and `step` do nothing else. An invariant of the
machine is then one case analysis over `Trans`. -/

namespace Sys2Proof.Machine

/-- The transitions of the block, each with the conditions under which it is taken. -/
inductive Trans (s : State) : State → Prop where
  /-- A pure operation, a read, or an operation that fails for an external caller. -/
  | returns (r : OpResult) : Trans s (s.ret r)
  | benchGrant (f : List Byte) : s.taskAlive = false → s.tphase = .idle → Trans s (s.grant .bench f)
  | benchWait (f : List Byte) : s.taskAlive = false → s.tphase ≠ .idle → s.busWait = none →
      Trans s { s with busWait := some ⟨s.time, f, .bench⟩ }
  | benchReceive (len ms : Nat) : s.taskAlive = false → s.rxOp = none → 0 < len → len ≤ Config.RX_CAP →
      Trans s { s with rxOp := some ⟨s.time, len, ms, .bench, []⟩ }
  | registers (cfg : SlaveConfig) (i : Fin Config.MAX_SLAVES) : s.firstFree = some i → s.regLock = .free →
      Trans s ({ s.setSlot i (freshSlot cfg (tickMs s.time)) with slaveCount := s.slaveCount + 1 }.ret (.slotIndex i))
  | frees (i : Fin Config.MAX_SLAVES) : (s.slot i).inUse = true → s.pollsSlot i = false →
      Trans s ({ s.setSlot i { s.slot i with inUse := false } with slaveCount := s.slaveCount - 1 }.ret .ok)
  | starts : s.taskAlive = false →
      Trans s { s with running := true, taskAlive := true, schedPhase := .sleeping, wakeAt := s.time }
  | restarts : s.taskAlive = true → Trans s { s with running := true }
  | stops : Trans s { s with running := false }
  | delivers (bs : List Byte) : Trans s (s.deliver bs)
  | ends : s.txDoneEnabled = true → Trans s { s with tphase := .guardBand }
  | releases : s.deReleaseEnabled = true → s.busWait = none → Trans s s.releaseDe
  | hands (w : BusWait) : s.deReleaseEnabled = true → s.busWait = some w →
      Trans s ({ s.releaseDe with busWait := none }.grant w.caller w.frame)
  | exits : s.wakeEnabled = true → s.running = false → Trans s { s with taskAlive := false, schedPhase := .stopped }
  | scans : s.wakeEnabled = true → s.running = true → Trans s { s with schedPhase := .scanning, scanI := 0 }
  | passes (i : Fin Config.MAX_SLAVES) : s.schedPhase = .scanning → s.scanI.val = i.val → Trans s { s with scanI := i.succ }
  | begins (i : Fin Config.MAX_SLAVES) : s.schedPhase = .scanning → s.scanI.val = i.val → (s.slot i).inUse = true →
      isDue (tickMs s.time) (s.slot i).lastPollTick (s.slot i).cfg = true → Trans s (s.beginPoll i (tickMs s.time))
  | pollGrant (p : PollLatch) : s.schedPhase = .inPoll → s.poll.step = .start → s.tphase = .idle →
      build s.poll.cfg.address s.poll.cfg.registerStart s.poll.cfg.registerCount Config.TX_CAP = .ok p.txbuf →
      p = { s.poll with
        txbuf := p.txbuf, expectedLen := expectedLen s.poll.cfg, timeoutMs := timeoutMs s.baud (expectedLen s.poll.cfg)
        step := .waitBus } →
      Trans s ({ s with poll := p }.grant .scheduler p.txbuf)
  | pollWait (p : PollLatch) : s.schedPhase = .inPoll → s.poll.step = .start → s.tphase ≠ .idle → s.busWait = none →
      build s.poll.cfg.address s.poll.cfg.registerStart s.poll.cfg.registerCount Config.TX_CAP = .ok p.txbuf →
      p = { s.poll with
        txbuf := p.txbuf, expectedLen := expectedLen s.poll.cfg, timeoutMs := timeoutMs s.baud (expectedLen s.poll.cfg)
        step := .waitBus } →
      Trans s { s with poll := p, busWait := some ⟨s.time, p.txbuf, .scheduler⟩ }
  | pollNoBuffer : s.schedPhase = .inPoll → s.poll.step = .granted → s.poll.expectedLen > Config.RX_CAP →
      Trans s ((s.setStep .waitRx).failPoll .errAllocation)
  | pollReads : s.schedPhase = .inPoll → s.poll.step = .granted → s.rxOp = none → 0 < s.poll.expectedLen →
      s.poll.expectedLen ≤ Config.RX_CAP →
      Trans s { s.setStep .waitRx with rxOp := some ⟨s.time, s.poll.expectedLen, s.poll.timeoutMs, .scheduler, []⟩ }
  | pollReadsNothing : s.schedPhase = .inPoll → s.poll.step = .granted → s.rxOp = none → s.poll.expectedLen = 0 →
      Trans s ((s.setStep .waitRx).completeReceive .scheduler [])
  | pollFinishes : s.schedPhase = .inPoll → s.poll.step = .received → Trans s s.pollFinish
  | sleeps : s.sleepEnabled = true → Trans s { s with schedPhase := .sleeping, wakeAt := s.time + Config.TICK_MS * 1000 }

theorem benchMay_next {s t : State} {k : Out} (h : s.benchMay k = .next t) : s.taskAlive = false ∧ k = .next t := by
  unfold State.benchMay at h
  split at h
  · cases h
  · exact ⟨(Bool.not_eq_true _).mp ‹_›, h⟩

theorem whenEnabled_next {b : Bool} {e : String} {k : Out} {t : State} (h : whenEnabled b e k = .next t) :
    b = true ∧ k = .next t := by
  unfold whenEnabled at h
  split at h
  · exact ⟨‹_›, h⟩
  · cases h

/-- `issueTransmit` grants, waits, or refuses. -/
theorem issueTransmit_next {s t : State} {c : Caller} {f : List Byte} (h : s.issueTransmit c f = .next t) :
    (s.tphase = .idle ∧ t = s.grant c f)
    ∨ (s.tphase ≠ .idle ∧ s.busWait = none ∧ t = { s with busWait := some ⟨s.time, f, c⟩ }) := by
  unfold State.issueTransmit at h
  split at h
  · exact .inl ⟨‹_›, by injection h with h; exact h.symm⟩
  · split at h
    · exact .inr ⟨‹_›, ‹_›, by injection h with h; exact h.symm⟩
    · cases h

theorem benchTransmit_trans {s t : State} {f : List Byte} (h : s.benchMay (s.issueTransmit .bench f) = .next t) :
    Trans s t := by
  obtain ⟨ha, h⟩ := benchMay_next h
  obtain ⟨hi, rfl⟩ | ⟨hi, hw, rfl⟩ := issueTransmit_next h
  · exact .benchGrant f ha hi
  · exact .benchWait f ha hi hw

theorem returnsSelf {s : State} (h : s.rxOp = none) (bs : List Byte) : s.completeReceive .bench bs = s.ret (.bytes bs) := by
  cases s; cases h; rfl

theorem retExcept_trans {α : Type} (s : State) (g : α → OpResult) (e : Except ErrCode α) : Trans s (s.retExcept g e) := by
  cases e <;> exact .returns _

theorem scheduler_trans {s t : State} (h : execPoll s = .next t) : Trans s t := by
  obtain ⟨he, h⟩ := whenEnabled_next h
  have hp : s.schedPhase = .inPoll := by simp [State.pollEnabled] at he; exact he.1
  split at h
  · unfold State.pollStart at h
    split at h
    · rename_i e hb
      simp [build, Config.TX_CAP, Config.REQ_LEN] at hb
    · rename_i f hb
      obtain ⟨hi, rfl⟩ | ⟨hi, hw, rfl⟩ := issueTransmit_next h
      · exact .pollGrant { s.poll with
          txbuf := f, expectedLen := expectedLen s.poll.cfg, timeoutMs := timeoutMs s.baud (expectedLen s.poll.cfg)
          step := .waitBus } hp ‹_› hi hb rfl
      · exact .pollWait { s.poll with
          txbuf := f, expectedLen := expectedLen s.poll.cfg, timeoutMs := timeoutMs s.baud (expectedLen s.poll.cfg)
          step := .waitBus } hp ‹_› hi hw hb rfl
  · rename_i hs
    unfold State.pollReceive State.issueReceive at h
    split at h
    · injection h with h; subst h; exact .pollNoBuffer hp hs ‹_›
    · split at h
      · split at h
        · injection h with h; subst h; exact .pollReadsNothing hp hs ‹_› ‹_›
        · injection h with h; subst h
          exact .pollReads hp hs ‹_› (by omega) (by omega)
      · cases h
  · injection h with h; subst h; exact .pollFinishes hp ‹_›
  all_goals cases h

/-- Whatever an instruction answers as its next state is one of the transitions. -/
theorem exec_trans {i : Instr} {s t : State} (h : exec i s = .next t) : Trans s t := by
  cases i <;> simp only [exec] at h
  case crc16 => injection h with h; subst h; exact .returns _
  case build => injection h with h; subst h; exact retExcept_trans ..
  case parse => injection h with h; subst h; exact retExcept_trans ..
  case transmit f => exact benchTransmit_trans h
  case receive len ms =>
    obtain ⟨ha, h⟩ := benchMay_next h
    unfold State.issueReceive at h
    split at h
    · injection h with h; subst h; exact .returns _
    · split at h
      · split at h
        · injection h with h; subst h; rw [returnsSelf ‹_›]; exact .returns _
        · injection h with h; subst h
          exact .benchReceive len ms ha ‹_› (by omega) (by omega)
      · cases h
  case register cfg =>
    unfold execRegister at h
    split at h
    · injection h with h; subst h; exact .returns _
    · split at h
      · injection h with h; subst h; exact .registers cfg _ ‹_› ‹_›
      · injection h with h; subst h; exact .returns _
  case unregister k =>
    unfold execUnregister at h
    split at h
    · injection h with h; subst h; exact .returns _
    · rename_i i hu
      split at h
      · cases h
      · injection h with h; subst h
        refine .frees i ?_ ((Bool.not_eq_true _).mp ‹_›)
        unfold State.usedSlot at hu
        split at hu
        · split at hu
          · injection hu with hu; subst hu; assumption
          · cases hu
        · cases hu
  case snapshot k =>
    unfold execSnapshot at h
    split at h
    · injection h with h; subst h; exact .returns _
    · split at h <;> (injection h with h; subst h; exact .returns _)
  case count => injection h with h; subst h; exact .returns _
  case start =>
    unfold execStart at h
    split at h
    · injection h with h; subst h; exact .restarts ‹_›
    · injection h with h; subst h; exact .starts ((Bool.not_eq_true _).mp ‹_›)
  case stop => injection h with h; subst h; exact .stops
  case req8 => exact benchTransmit_trans h
  case rspv => injection h with h; subst h; exact .delivers _
  case txDone =>
    obtain ⟨he, h⟩ := whenEnabled_next h
    injection h with h; subst h; exact .ends he
  case deRelease =>
    obtain ⟨he, h⟩ := whenEnabled_next h
    split at h
    · injection h with h; subst h; exact .hands _ he ‹_›
    · injection h with h; subst h; exact .releases he ‹_›
  case wake =>
    obtain ⟨he, h⟩ := whenEnabled_next h
    split at h
    · injection h with h; subst h; exact .scans he ‹_›
    · injection h with h; subst h; exact .exits he ((Bool.not_eq_true _).mp ‹_›)
  case scanStep =>
    unfold execScanStep at h
    split at h
    · rename_i hlt
      obtain ⟨he, h⟩ := whenEnabled_next h
      have hp : s.schedPhase = .scanning := by simp [State.scanStepEnabled] at he; exact he.1
      split at h
      · rename_i hd
        simp only [Bool.and_eq_true] at hd
        injection h with h; subst h
        exact .begins ⟨_, hlt⟩ hp rfl hd.1 hd.2
      · injection h with h; subst h
        exact .passes ⟨_, hlt⟩ hp rfl
    · cases h
  case poll => exact scheduler_trans h
  case sleep =>
    obtain ⟨he, h⟩ := whenEnabled_next h
    injection h with h; subst h; exact .sleeps he
  case synth =>
    unfold execSynth at h
    split at h
    · injection h with h; subst h; exact .returns _
    · cases h

/-- What a step can do: a transition of the block or of its environment (after the inputs have been taken note of), the end of a
wait, or the passage of time. -/
inductive StepKind (s : State) : State → Prop where
  /-- An instruction's transition or the arrival of bytes. `inp` is `inputs` less the head, or with a head that yields to one
  transition less. -/
  | trans (inp : List Input) (t : State) : Trans { s with inputs := inp } t → StepKind s t
  | busWaitBench (w : BusWait) : s.busWait = some w → w.caller = .bench → s.time = w.deadline →
      StepKind s ({ s with busWait := none }.ret (.err .errBusBusy))
  | busWaitPoll (w : BusWait) : s.busWait = some w → w.caller = .scheduler → s.time = w.deadline →
      StepKind s ({ s with busWait := none }.failPoll .errBusBusy)
  | windowEnds (r : RxOp) : s.rxOp = some r → s.time = r.deadline → StepKind s (s.completeReceive r.caller r.got)
  | timePasses (t' : Nat) : s.time ≤ t' → (∀ d ∈ s.deadlines, t' ≤ d) → StepKind s { s with time := t' }
  | idles : s.deadlines = [] → StepKind s { s with time := s.time + Config.idleDelay s.draws, draws := s.draws + 1 }

theorem foldl_min_le (ts : List Nat) (t : Nat) : ts.foldl min t ≤ t ∧ (∀ d ∈ ts, ts.foldl min t ≤ d)
    ∧ ts.foldl min t ∈ t :: ts := by
  induction ts generalizing t with
  | nil => simp
  | cons a as ih =>
    obtain ⟨h1, h2, h3⟩ := ih (min t a)
    refine ⟨?_, ?_, ?_⟩
    · simp only [List.foldl_cons]; omega
    · intro d hd
      simp only [List.foldl_cons]
      rcases List.mem_cons.mp hd with rfl | hd
      · omega
      · exact h2 d hd
    · simp only [List.foldl_cons, List.mem_cons] at h3 ⊢
      rcases h3 with h3 | h3
      · rw [h3]
        rcases Nat.le_total t a with h | h
        · left; omega
        · right; left; omega
      · exact .inr (.inr h3)

/-- Passing time goes to an instant of the horizon that is the nearest. -/
theorem advance_next {s t : State} (h : s.advance = .next t) (hin : ∀ x ∈ s.inputs.head?, s.time ≤ x.due) : StepKind s t := by
  unfold State.advance at h
  split at h
  · cases h
  · rename_i hmiss
    have hd : ∀ d ∈ s.deadlines, s.time ≤ d := by
      intro d hd
      simp only [List.any_eq_true, decide_eq_true_eq, not_exists, not_and] at hmiss
      have := hmiss d hd
      omega
    split at h
    · rename_i t0 ts hh
      injection h with h; subst h
      obtain ⟨h1, h2, h3⟩ := foldl_min_le ts t0
      have hall : ∀ d ∈ s.horizon, ts.foldl min t0 ≤ d := by
        intro d hd'
        rw [hh] at hd'
        rcases List.mem_cons.mp hd' with rfl | hd'
        · exact h1
        · exact h2 d hd'
      refine .timePasses _ ?_ fun d hd' => hall d (by simp [State.horizon, hd'])
      have : ts.foldl min t0 ∈ s.horizon := by rw [hh]; exact h3
      simp only [State.horizon, List.mem_append, Option.mem_toList, Option.map_eq_some_iff] at this
      rcases this with hm | ⟨x, hx, he⟩
      · exact hd _ hm
      · have := hin x (by simpa using hx)
        omega
    · rename_i hh
      injection h with h; subst h
      simp only [State.horizon, List.append_eq_nil_iff] at hh
      exact .idles hh.1

theorem runInput_trans {w : PortWord} {s t : State} (h : runInput w s = .next t) : Trans s t := by
  unfold runInput at h
  split at h
  · exact exec_trans h
  · unfold State.rawInput at h
    split at h
    · injection h with h; subst h; exact .delivers _
    all_goals cases h

theorem passInput_eq (s : State) : s.passInput = { s with inputs := s.passInput.inputs } := by
  unfold State.passInput; (repeat' split) <;> rfl

/-- Whatever a step answers as its next state is one of the kinds. -/
theorem step_kind {s t : State} (h : step s = .next t) : StepKind s t := by
  unfold step at h
  split at h
  · exact .trans s.inputs t (exec_trans h)
  · rename_i hm
    unfold State.busWaitTimeout at h
    split at h
    · rename_i w hw
      have hdl : s.time = w.deadline := by
        unfold State.nextMove State.openMove at hm
        repeat' split at hm
        all_goals cases hm
        rename_i hx
        simpa [State.busWaitExpired, hw] using hx
      split at h <;> (injection h with h; subst h)
      · exact .busWaitBench w hw ‹_› hdl
      · exact .busWaitPoll w hw ‹_› hdl
    · cases h
  · rename_i hm
    unfold State.rxTimeout at h
    split at h
    · rename_i r hr
      injection h with h; subst h
      refine .windowEnds r hr ?_
      have hx : s.rxExpired = true := by
        unfold State.nextMove State.openMove at hm
        repeat' split at hm
        all_goals cases hm
        all_goals assumption
      simpa [State.rxExpired, hr] using hx
    · cases h
  · exact .trans _ t (runInput_trans h)
  · rw [passInput_eq] at h
    exact .trans _ t (exec_trans h)
  · rename_i hm
    refine advance_next h ?_
    intro x hx
    unfold State.nextMove State.openMove at hm
    repeat' split at hm
    all_goals cases hm
    rename_i hdi _
    unfold State.dueInput at hdi
    split at hdi
    · rename_i y rest hy
      rw [hy] at hx
      simp only [List.head?_cons, Option.mem_def, Option.some.injEq] at hx
      subst hx
      split at hdi
      · cases hdi
      · omega
    · rename_i hy; rw [hy] at hx; simp at hx

end Sys2Proof.Machine
end

