-- ==== Sys2Proof/Laws/Step.lean ====
section
/-! SUPPORT. Which transition a step takes, and that no instruction faults. -/

namespace Sys2Proof.Machine

theorem calm_iff {s : State} : s.calm = true ↔ s.txDoneEnabled = false ∧ s.deReleaseEnabled = false
    ∧ s.busWaitExpired = false ∧ s.rxExpired = false := by
  simp [State.calm, and_assoc]

/-- In a calm state an input that is due and yields to nothing is the next move. -/
theorem nextMove_input {s : State} {x : Input} {rest : List Input} (hc : s.calm = true) (hx : s.inputs = x :: rest)
    (hd : x.due ≤ s.time) (hy : x.yields = 0 ∨ s.internalEvent = none) : s.nextMove = .input x rest := by
  obtain ⟨h1, h2, h3, h4⟩ := calm_iff.mp hc
  simp only [State.nextMove, h1, h2, h3, h4, State.openMove, State.dueInput, hx, hd, if_true]
  rcases hi : s.internalEvent with _ | i
  · rfl
  · rcases hy with hy | hy
    · simp [hy]
    · rw [hi] at hy; cases hy

/-- In a calm state the enabled scheduler event is the next move when the input that is due yields to it. -/
theorem nextMove_yields {s : State} {x : Input} {rest : List Input} {i : Instr} (hc : s.calm = true) (hx : s.inputs = x :: rest)
    (hd : x.due ≤ s.time) (hy : 0 < x.yields) (hi : s.internalEvent = some i) : s.nextMove = .internal i := by
  obtain ⟨h1, h2, h3, h4⟩ := calm_iff.mp hc
  simp [State.nextMove, h1, h2, h3, h4, State.openMove, State.dueInput, hx, hd, hi, Nat.ne_of_gt hy]

/-- The input that is due stays, and yields to one less. -/
theorem passInput_due {s : State} {x : Input} {rest : List Input} (hx : s.inputs = x :: rest) (hd : x.due ≤ s.time) :
    s.passInput = { s with inputs := { x with yields := x.yields - 1 } :: rest } := by
  unfold State.passInput
  rw [hx]
  exact if_pos hd

/-- Time does not pass while a scheduler event is enabled. -/
theorem nextMove_ne_advance {s : State} (h : s.internalEvent ≠ none) : s.nextMove ≠ .advance := by
  intro hm
  unfold State.nextMove State.openMove at hm
  repeat' split at hm
  all_goals first | exact h ‹_› | cases hm

/-- Bytes on the line that are due are the next move also at the end of a receive window, whatever they yield to. -/
theorem nextMove_line {s : State} {x : Input} {rest : List Input} (h1 : s.txDoneEnabled = false) (h2 : s.deReleaseEnabled = false)
    (h3 : s.busWaitExpired = false) (hx : s.inputs = x :: rest) (hd : x.due ≤ s.time) (hl : x.isLine = true)
    (hy : x.yields = 0 ∨ s.internalEvent = none ∨ s.rxExpired = true) : s.nextMove = .input x rest := by
  rcases h4 : s.rxExpired with _ | _
  · exact nextMove_input (calm_iff.mpr ⟨h1, h2, h3, h4⟩) hx hd (by simpa [h4] using hy)
  · simp [State.nextMove, State.dueInput, h1, h2, h3, h4, hx, hd, hl]

/-- The timer's moves are its two events, each only where it is enabled. -/
theorem nextMove_timer {s : State} {i : Instr} (h : s.nextMove = .timer i) :
    (i = .txDone ∧ s.txDoneEnabled = true) ∨ (i = .deRelease ∧ s.deReleaseEnabled = true) := by
  unfold State.nextMove State.openMove at h
  repeat' split at h
  all_goals cases h
  all_goals simp [*]

/-- The scheduler's move is the enabled event. -/
theorem nextMove_internal {s : State} {i : Instr} (h : s.nextMove = .internal i) : s.internalEvent = some i := by
  unfold State.nextMove State.openMove at h
  repeat' split at h
  all_goals cases h
  all_goals assumption

theorem internalEvent_mem {s : State} {i : Instr} (h : s.internalEvent = some i) :
    i ∈ [Instr.wake, .scanStep, .sleep, .poll] := by
  unfold State.internalEvent at h
  repeat' split at h
  all_goals cases h
  all_goals simp

theorem whenEnabled_fault {b : Bool} {e : String} {k : Out} {r : Fault} (h : whenEnabled b e k = .fault r) : k = .fault r := by
  unfold whenEnabled at h
  split at h
  · exact h
  · cases h

theorem issueTransmit_not_fault (s : State) (c : Caller) (f : List Byte) (r : Fault) : s.issueTransmit c f ≠ .fault r := by
  intro h
  unfold State.issueTransmit at h
  repeat' split at h
  all_goals cases h

theorem issueReceive_not_fault (s : State) (c : Caller) (len ms : Nat) (r : Fault) : s.issueReceive c len ms ≠ .fault r := by
  intro h
  unfold State.issueReceive at h
  repeat' split at h
  all_goals cases h

/-- What arriving bytes can do. -/
theorem deliver_cases (s : State) (bs : List Byte) :
    (s.rxOp = none ∧ s.deliver bs = s)
    ∨ (∃ r, s.rxOp = some r ∧ ((r.got ++ bs).take r.len).length ≠ r.len
        ∧ s.deliver bs = { s with rxOp := some { r with got := (r.got ++ bs).take r.len } })
    ∨ ∃ r, s.rxOp = some r ∧ ((r.got ++ bs).take r.len).length = r.len
        ∧ s.deliver bs = s.completeReceive r.caller ((r.got ++ bs).take r.len) := by
  unfold State.deliver
  split
  · rename_i r hr
    dsimp only
    split
    · exact .inr (.inr ⟨r, hr, ‹_›, rfl⟩)
    · exact .inr (.inl ⟨r, hr, ‹_›, rfl⟩)
  · exact .inl ⟨‹_›, rfl⟩

end Sys2Proof.Machine
end

