-- ==== Sys2Proof/Laws/Timing.lean ====
section
/-! SUPPORT. The timing formulas' small laws (42_bus_transport.md R126, R127). -/

namespace Sys2Proof.Machine

theorem rate_pos (b : Baud) : 1 ≤ b.rate := Nat.le_add_left ..

theorem rate_le (b : Baud) : b.rate ≤ 10_000_000 := b.pred.isLt

/-- A character takes at least a microsecond, whatever the baud rate in range. -/
theorem charTimeUs_pos (b : Baud) : 1 ≤ charTimeUs b := (Nat.one_le_div_iff (rate_pos b)).mpr (rate_le b)

/-- The last character ends before the guard band does. -/
theorem txDataUs_lt_txTimeUs (b : Baud) (n : Nat) : txDataUs b n < txTimeUs b n := by
  unfold txDataUs txTimeUs Config.GUARD_CHARS
  have := charTimeUs_pos b
  rw [Nat.add_mul]
  omega

/-- The character time as R126 writes it. -/
theorem charTimeUs_eq (b : Baud) : charTimeUs b = 10_000_000 / b.rate := rfl

/-- The silent interval as R175 writes it. -/
theorem silentUs_eq (b : Baud) : silentUs b = (7 * charTimeUs b + 1) / 2 := rfl

/-- The response to a configuration of the documented range fits the receive buffer (R9). -/
theorem expectedLen_le_of_inDocumentedRange {cfg : SlaveConfig} (h : cfg.inDocumentedRange = true) :
    expectedLen cfg ≤ Config.RX_CAP := by
  simp only [SlaveConfig.inDocumentedRange, Config.COUNT_MAX, decide_eq_true_eq, BitVec.le_def] at h
  unfold expectedLen Config.RSP_OVERHEAD Config.RX_CAP
  have : (64 : U16).toNat = 64 := rfl
  omega

end Sys2Proof.Machine
end

