-- ==== Sys2Proof/Tests/Slice0.lean ====
section
/-! SUPPORT. Tests: ill-formed terms are refused, words written out from the spec's encodings decode to what they stand for, the
vectors of spec/95_test_vectors.md, and a witness for the hypotheses of every statement. Expected values are the spec's. -/

namespace Sys2Proof.Tests

-- One theorem at a time: every kernel evaluation waits for those before it, and each waiting thread holds a stack.
set_option Elab.async false

open Sys2Proof.Machine

/- ---- Helpers ---- -/

/-- The result port after a transition. -/
def resultOf : Out → Option OpResult
  | .next t => t.result
  | .fault _ | .refused _ => none

/-- A field of the next state. -/
def fieldOf {α : Type} (f : State → α) : Out → Option α
  | .next t => some (f t)
  | .fault _ | .refused _ => none

/-- The refusal a transition ends in. -/
def refusalOf : Out → Option Refusal
  | .refused r => some r
  | .next _ | .fault _ => none

/-- The request frame of program P2. -/
def f1 : List Byte := [0x01, 0x03, 0x00, 0x00, 0x00, 0x06, 0xC5, 0xC8]
/-- The second request frame of program P5. -/
def f2 : List Byte := [0x02, 0x03, 0x00, 0x00, 0x00, 0x01, 0x84, 0x39]
/-- The response frame of program P2. -/
def r1 : List Byte :=
  [0x01, 0x03, 0x0C, 0x12, 0x34, 0x00, 0x00, 0xFF, 0xFF, 0x00, 0x01, 0x80, 0x00, 0x00, 0xFF, 0x55, 0x33]
/-- Its words. -/
def v1 : List U16 := [0x1234, 0x0000, 0xFFFF, 0x0001, 0x8000, 0x00FF]
/-- The configuration of program P2. -/
def cfg1 : SlaveConfig := ⟨1, 0, 6, 500⟩
/-- The configuration of slot 0 in program P7. -/
def cfg65 : SlaveConfig := ⟨1, 0, 65, 1000⟩

/-- The state after reset at 9600 bit/s. -/
def s96 : State := { State.reset with baud := ⟨9599⟩ }

/-- A transmission of `f1` granted at 0 at 9600 bit/s (95_test_vectors.md 2.5). -/
def busy : State := { s96 with
  de := true, tphase := .transmitting, txDataEnd := 8328, deTimer := ⟨true, 11451⟩, txStream := [(0, f1)], deLog := [(0, true)] }

/-- `f2` waits for that transmission, for `c`. -/
def waiting (c : Caller) : State := { busy with busWait := some ⟨5000, f2, c⟩, tphase := .guardBand, time := 11451 }

/-- A receive of 17 bytes for `c`, issued at 0. -/
def reading (c : Caller) : State := { s96 with rxOp := some ⟨0, 17, 1021, c, []⟩ }

/-- Slot `i` holds `c`, as REGISTER at tick 0 leaves it. -/
def registered (i : Fin 32) (c : SlaveConfig) : State :=
  { s96.setSlot i (freshSlot c 0) with slaveCount := 1 }

/-- All 32 slots in use. -/
def full : State := { s96 with slots := Vector.replicate 32 (freshSlot cfg1 0), slaveCount := 32 }

/-- A scan at slot `k`, with `cfg1` in slot 0 and the task alive. -/
def scanning (k : Fin 33) : State :=
  { registered 0 cfg1 with running := true, taskAlive := true, schedPhase := .scanning, scanI := k }

/-- A poll of slot 0 at stage `p`, with the request of P2 latched and the bus idle. -/
def polling (c : SlaveConfig) (p : PollStep) (rx : List Byte) : State :=
  { registered 0 c with
    running := true, taskAlive := true, schedPhase := .inPoll
    poll := ⟨0, c, 0, f1, expectedLen c, 1021, p, rx⟩ }

/-- Program P2 just after instant 0: the request is being sent and the poll reads. -/
def inFlight : State :=
  { polling cfg1 .waitRx [] with
    de := true, tphase := .transmitting, txDataEnd := 8328, deTimer := ⟨true, 11451⟩, txStream := [(0, f1)]
    deLog := [(0, true)], rxOp := some ⟨0, 17, 1021, .scheduler, []⟩ }

/-- The task sleeps until now. -/
def sleepy (r : Bool) : State := { s96 with running := r, taskAlive := true, schedPhase := .sleeping }

/- ---- Well-formedness: one ill-formed term for each check ---- -/

theorem test_wf_req8 : (Instr.req8 1 0 6 0xC8C5).wf = true ∧ (Instr.req8 1 0 6 0xC8C4).wf = false := by decide +kernel
theorem test_wf_rspv_crc : (Instr.rspv 2 [0xBE, 0xEF] 0x68CC).wf = true ∧ (Instr.rspv 2 [0xBE, 0xEF] 0x68CD).wf = false := by
  decide +kernel
theorem test_wf_rspv_odd : (Instr.rspv 2 [0xBE] (crc16 [2, 3, 1, 0xBE])).wf = false := by decide +kernel
theorem test_wf_rspv_long :
    (Instr.rspv 2 (List.replicate 256 0) (crc16 ([2, 3, 0] ++ List.replicate 256 0))).wf = false := by decide +kernel
/-- The ends of the documented ranges of a configuration (00_scope.md R6). -/
theorem test_documented_range : SlaveConfig.inDocumentedRange ⟨1, 0, 1, 0⟩ = true ∧ SlaveConfig.inDocumentedRange ⟨247, 0, 64, 0⟩ = true
    ∧ SlaveConfig.inDocumentedRange ⟨0, 0, 1, 0⟩ = false ∧ SlaveConfig.inDocumentedRange ⟨248, 0, 1, 0⟩ = false
    ∧ SlaveConfig.inDocumentedRange ⟨1, 0, 0, 0⟩ = false ∧ SlaveConfig.inDocumentedRange ⟨1, 0, 65, 0⟩ = false := by decide
theorem test_wf_synth_length : (Instr.synth 2 1 [0xBEEF]).wf = true ∧ (Instr.synth 2 2 [0xBEEF]).wf = false := by decide +kernel
theorem test_wf_synth_range :
    (Instr.synth 2 127 (List.replicate 127 0)).wf = true ∧ (Instr.synth 2 128 (List.replicate 128 0)).wf = false := by
  decide +kernel

/- ---- Decoding: words from 30_encoding.md R75, R76, R79 ---- -/

theorem test_decode_crc16 : decodeTableWord 4 0b0001 = some (.crc16 []) := by decide
theorem test_decode_build : decodeTableWord 4 0b0010 = some (.build 0 0 0 0) := by decide
theorem test_decode_parse : decodeTableWord 4 0b0011 = some (.parse [] 0 0) := by decide
theorem test_decode_transmit : decodeTableWord 4 0b0100 = some (.transmit []) := by decide
theorem test_decode_receive : decodeTableWord 4 0b0101 = some (.receive 0 0) := by decide
theorem test_decode_register : decodeTableWord 4 0b0110 = some (.register ⟨0, 0, 0, 0⟩) := by decide
theorem test_decode_unregister : decodeTableWord 4 0b0111 = some (.unregister 0) := by decide
theorem test_decode_snapshot : decodeTableWord 4 0b1000 = some (.snapshot 0) := by decide
theorem test_decode_count : decodeTableWord 4 0b1001 = some .count := by decide
theorem test_decode_start : decodeTableWord 4 0b1010 = some .start := by decide
theorem test_decode_stop : decodeTableWord 4 0b1011 = some .stop := by decide
theorem test_decode_ports :
    decode (.command 0b0011 { bytes := [0xAA], address := 7, regCount := 9, startReg := 1, cap := 2 }) = .ok (.parse [0xAA] 7 9) := by
  decide
theorem test_decode_reserved : decode (.command 0b0000 {}) = .error (.reservedCommand 0)
    ∧ decode (.command 0b1100 {}) = .error (.reservedCommand 12) ∧ decode (.command 0b1111 {}) = .error (.reservedCommand 15) := by
  decide
/-- The 64-bit pattern of `01 03 00 6B 00 03 74 17`, address, function, startHi, startLo, countHi, countLo, crcLo, crcHi. -/
theorem test_decode_req8 :
    decodeTableWord 64 0b0000000100000011000000000110101100000000000000110111010000010111 = some (.req8 0x01 0x006B 3 0x1774) := by
  decide +kernel
theorem test_decode_req8_function : decode (.txFrame [0x01, 0x04, 0, 0, 0, 6, 0, 0]) = .error .notRequestFrame := by decide
theorem test_decode_rspv : decode (.rxLine [0x02, 0x03, 0x02, 0xBE, 0xEF, 0xCC, 0x68]) = .ok (.rspv 0x02 [0xBE, 0xEF] 0x68CC) := by
  decide +kernel
/-- The 24-bit header of address 2 and two data bytes. -/
theorem test_decode_rspv_header : decodeTableWord 24 0b000000100000001100000010 = some (.rspv 0x02 [0, 0] 0) := by decide +kernel
theorem test_decode_rspv_length : decode (.rxLine [0x02, 0x03, 0x02, 0xBE, 0xEF, 0xCC]) = .error .notResponseFrame := by
  decide +kernel

/- ---- CRC Engine: 95_test_vectors.md 2.1 ---- -/

theorem test_crc16_short : crc16 [] = 0xFFFF ∧ crc16 [0x00] = 0x40BF ∧ crc16 [0x01] = 0x807E ∧ crc16 [0xFF] = 0x00FF
    ∧ crc16 [0x80] = 0xE0BE ∧ crc16 [0x01, 0x03] = 0x2140 := by decide +kernel
theorem test_crc16_long : crc16 (List.replicate 8 0x00) = 0x0B40 ∧ crc16 (List.replicate 8 0xFF) = 0x8F01
    ∧ crc16 [0x31, 0x32, 0x33, 0x34, 0x35, 0x36, 0x37, 0x38, 0x39] = 0x4B37 ∧ crc16 [0x11, 0x03, 0x00, 0x6B, 0x00, 0x03] = 0x8776
    ∧ crc16 f1 = 0x0000 ∧ resultOf (exec (.crc16 (f1.take 6)) s96) = some (.crc 0xC8C5) := by decide +kernel

/- ---- Frame Codec: 2.2, 2.3 ---- -/

theorem test_build : build 0x01 0 6 8 = .ok f1 ∧ build 0x02 0 1 8 = .ok f2
    ∧ build 0xF7 0xFFFF 64 8 = .ok [0xF7, 0x03, 0xFF, 0xFF, 0x00, 0x40, 0x50, 0x88]
    ∧ build 0xFF 0x1234 0xABCD 8 = .ok [0xFF, 0x03, 0x12, 0x34, 0xAB, 0xCD, 0xAA, 0x07] := by decide +kernel
theorem test_build_capacity : build 0x01 0 6 256 = .ok f1 ∧ build 0x01 0 6 7 = .error .errBuild
    ∧ resultOf (exec (.build 0x01 0 6 0) s96) = some (.err .errBuild) := by decide +kernel
theorem test_synth : synth 1 6 v1 = r1 ∧ synth 0x11 3 [0xAE41, 0x5652, 0x4340]
      = [0x11, 0x03, 0x06, 0xAE, 0x41, 0x56, 0x52, 0x43, 0x40, 0x49, 0xAD]
    ∧ synth 2 1 [0xBEEF] = [0x02, 0x03, 0x02, 0xBE, 0xEF, 0xCC, 0x68] ∧ synth 1 0 [] = [0x01, 0x03, 0x00, 0x20, 0xF0] := by
  decide +kernel
theorem test_synth_limit : (synth 1 127 (List.replicate 127 0)).length = 259
    ∧ (synth 1 127 (List.replicate 127 0)).take 3 = [0x01, 0x03, 0xFE]
    ∧ refusalOf (exec (.synth 1 128 (List.replicate 128 0)) s96) = some .synthPrecondition := by decide +kernel
theorem test_parse_ok : parse r1 1 6 = .ok v1 ∧ parse (r1 ++ [0xAA]) 1 6 = .ok v1 ∧ parse [0x01, 0x03, 0x00, 0x20, 0xF0] 1 0 = .ok [] := by
  decide +kernel
theorem test_parse_errors : parse [] 1 1 = .error .errShortFrame ∧ parse [0x01, 0x03, 0x02, 0x00] 1 1 = .error .errShortFrame
    ∧ parse (r1.take 16) 1 6 = .error .errShortFrame ∧ parse (r1.set 4 0x01) 1 6 = .error .errCrcMismatch
    ∧ parse (r1.set 15 0xD5) 1 6 = .error .errCrcMismatch ∧ parse (r1.set 0 0x02) 1 6 = .error .errAddressOrFunctionMismatch
    ∧ parse (r1.set 1 0x83) 1 6 = .error .errAddressOrFunctionMismatch ∧ parse (r1.set 2 0x0A) 1 6 = .error .errByteCountMismatch
    ∧ parse f1 1 6 = .error .errByteCountMismatch ∧ parse [0x01, 0x03, 0x00, 0x20, 0xF0] 1 128 = .error .errByteCountMismatch := by
  decide +kernel

/- ---- Timing: table T1 ---- -/

theorem test_timing_9600 : charTimeUs ⟨9599⟩ = 1041 ∧ txDataUs ⟨9599⟩ 8 = 8328 ∧ txTimeUs ⟨9599⟩ 8 = 11451 ∧ silentUs ⟨9599⟩ = 3644
    ∧ timeoutMs ⟨9599⟩ 7 = 1010 ∧ timeoutMs ⟨9599⟩ 17 = 1021 ∧ timeoutMs ⟨9599⟩ 133 = 1142 := by decide +kernel
theorem test_timing_ends : charTimeUs ⟨0⟩ = 10_000_000 ∧ charTimeUs ⟨9_999_999⟩ = 1 ∧ silentUs ⟨9_999_999⟩ = 4
    ∧ timeoutMs ⟨299⟩ 17 = 1683 ∧ timeoutMs ⟨299⟩ 133 = 5000 ∧ timeoutMs ⟨0⟩ 7 = 5000 ∧ silentUs ⟨19199⟩ = 1820 := by decide +kernel
/-- 2.7. -/
theorem test_due : isDue 500 0 ⟨0, 0, 0, 500⟩ = true ∧ isDue 499 0 ⟨0, 0, 0, 500⟩ = false
    ∧ isDue 0 4_294_966_796 ⟨0, 0, 0, 500⟩ = true ∧ isDue 5 4_294_967_286 ⟨0, 0, 0, 15⟩ = true
    ∧ isDue 4 4_294_967_286 ⟨0, 0, 0, 15⟩ = false ∧ isDue 1000 0 ⟨0, 0, 0, 0⟩ = true ∧ isDue 0 0 ⟨0, 0, 0, 0⟩ = false := by
  decide +kernel

/- ---- Bus Transport: 2.5 ---- -/

theorem test_transmit : fieldOf (fun t => (t.de, t.tphase, t.txDataEnd, t.deTimer)) (exec (.transmit f1) s96)
      = some (true, .transmitting, 8328, ⟨true, 11451⟩)
    ∧ fieldOf (fun t => (t.txStream, t.deLog, t.result)) (exec (.transmit f1) s96) = some ([(0, f1)], [(0, true)], some .ok) := by
  decide +kernel
theorem test_transmit_empty : fieldOf (fun t => (t.txDataEnd, t.deTimer)) (exec (.transmit []) { s96 with time := 20_000 })
    = some (20_000, ⟨true, 23_123⟩) := by decide +kernel
theorem test_req8 : fieldOf (fun t => (t.txStream, t.deTimer)) (exec (.req8 1 0 6 0xC8C5) s96)
    = some ([(0, f1)], ⟨true, 11451⟩) := by decide +kernel
theorem test_txDone : fieldOf (fun t => (t.tphase, t.de)) (exec .txDone { busy with time := 8328 }) = some (.guardBand, true) := by
  decide +kernel
theorem test_deRelease : fieldOf (fun t => (t.de, t.tphase, t.deTimer.armed, t.deLog))
      (exec .deRelease { busy with time := 11451, tphase := .guardBand })
    = some (false, .idle, false, [(0, true), (11451, false)]) := by decide +kernel
/-- Program P5: the waiter is granted at the instant of the release. -/
theorem test_deRelease_grants : fieldOf (fun t => (t.de, t.deLog)) (exec .deRelease (waiting .bench))
      = some (true, [(0, true), (11451, false), (11451, true)])
    ∧ fieldOf (fun t => (t.txStream, t.busWait.isNone)) (exec .deRelease (waiting .bench))
      = some ([(0, f1), (11451, f2)], true) := by decide +kernel
theorem test_receive_limits : resultOf (exec (.receive 134 1142) s96) = some (.err .errAllocation)
    ∧ resultOf (exec (.receive 0 1000) s96) = some (.bytes [])
    ∧ fieldOf (fun t => t.rxOp) (exec (.receive 133 1142) s96) = some (some ⟨0, 133, 1142, .bench, []⟩) := by decide +kernel
/-- Log entry 18: with a read pending, 134 bytes are ErrAllocation and 133 are refused. -/
theorem test_receive_overlap : resultOf (exec (.receive 134 1142) (reading .bench)) = some (.err .errAllocation)
    ∧ refusalOf (exec (.receive 133 1142) (reading .bench)) = some .secondReceive := by decide +kernel
/-- 5 bytes of 17 are kept; the other 12 complete the read, and no more than 17 are returned. -/
theorem test_rspv : fieldOf (fun t => (t.rxOp.map RxOp.got, t.result)) (exec (.rspv 1 [] 0xF020) (reading .bench))
      = some (some [0x01, 0x03, 0x00, 0x20, 0xF0], none)
    ∧ resultOf (exec (.rspv 1 [0x12, 0x34, 0, 0, 0xFF, 0xFF, 0, 1, 0x80, 0, 0, 0xFF] 0x3355) (reading .bench)) = some (.bytes r1) := by
  decide +kernel
/-- 2.5, bus-wait boundary: at one instant the release comes before the end of the wait, which then does not happen. -/
theorem test_release_before_timeout :
    fieldOf (fun t => (t.busWait, t.result)) (step { waiting .bench with
      time := 366_663, deTimer := ⟨true, 366_663⟩, busWait := some ⟨166_663, f2, .bench⟩ }) = some (none, some .ok)
    ∧ resultOf (step { waiting .bench with
      time := 366_662, deTimer := ⟨true, 366_663⟩, busWait := some ⟨166_662, f2, .bench⟩ }) = some (.err .errBusBusy) := by
  decide +kernel

/- ---- Slave Registry: 2.6, P4 ---- -/

theorem test_register : resultOf (exec (.register cfg1) s96) = some (.slotIndex 0)
    ∧ fieldOf (fun t => ((t.slot 0).lastPollTick, t.slaveCount)) (exec (.register cfg1) s96) = some (0xFFFFFE0C, 1)
    ∧ fieldOf (fun t => (t.slot 0).snap.view) (exec (.register cfg1) s96) = some ⟨1, 0, 6, List.replicate 6 0, 0, .ok⟩ := by
  decide +kernel
theorem test_register_seed : fieldOf (fun t => (t.slot 0).lastPollTick) (exec (.register ⟨2, 0, 1, 0⟩) { s96 with time := 12_345_000 })
      = some 11_345
    ∧ fieldOf (fun t => (t.slot 0).snap.valuesLen) (exec (.register ⟨9, 0, 100, 1000⟩) s96) = some 64
    ∧ resultOf (exec (.register cfg1) full) = some (.err .errFull) := by decide +kernel
theorem test_unregister : fieldOf (fun t => (t.slaveCount, (t.slot 5).inUse)) (exec (.unregister 5) full) = some (31, false)
    ∧ resultOf (exec (.unregister 5) full) = some .ok := by decide +kernel
theorem test_unregister_errors : resultOf (exec (.unregister 0) s96) = some (.err .errNotFound)
    ∧ resultOf (exec (.unregister (-1)) full) = some (.err .errNotFound)
    ∧ resultOf (exec (.unregister 32) full) = some (.err .errNotFound)
    ∧ refusalOf (exec (.unregister 0) inFlight) = some .slotInFlight := by decide +kernel
/-- While the poll is in flight the old snapshot is returned (P2 at 20_000). -/
theorem test_snapshot : resultOf (exec (.snapshot 0) inFlight) = some (.snapshot ⟨1, 0, 6, List.replicate 6 0, 0, .ok⟩)
    ∧ resultOf (exec (.snapshot 0) s96) = some (.err .errNotFound)
    ∧ resultOf (exec (.snapshot 32) full) = some (.err .errNotFound) := by decide +kernel
theorem test_count : resultOf (exec .count s96) = some (.count 0) ∧ resultOf (exec .count full) = some (.count 32) := by decide +kernel

/- ---- Poll Scheduler: P2, P3, P7 ---- -/

theorem test_start : fieldOf (fun t => (t.running, t.taskAlive, t.schedPhase, t.wakeAt)) (exec .start { s96 with time := 7 })
      = some (true, true, .sleeping, 7)
    ∧ fieldOf (fun t => (t.running, t.schedPhase)) (exec .start { inFlight with running := false }) = some (true, .inPoll) := by
  decide +kernel
theorem test_stop : fieldOf (fun t => (t.running, t.taskAlive, t.schedPhase)) (exec .stop inFlight) = some (false, true, .inPoll) := by
  decide +kernel
theorem test_wake : fieldOf (fun t => (t.schedPhase, t.scanI)) (exec .wake (sleepy true)) = some (.scanning, 0)
    ∧ fieldOf (fun t => (t.schedPhase, t.taskAlive)) (exec .wake (sleepy false)) = some (.stopped, false) := by decide +kernel
/-- Slot 0 is due at tick 0, slot 1 is free. -/
theorem test_scanStep : fieldOf (fun t => (t.schedPhase, t.poll.slot, t.poll.cfg, t.poll.now)) (exec .scanStep (scanning 0))
      = some (.inPoll, 0, cfg1, 0)
    ∧ fieldOf (fun t => (t.schedPhase, t.scanI)) (exec .scanStep (scanning 1)) = some (.scanning, 2) := by decide +kernel
/-- P3 at 1_530_669: a silent slave; the tick written is the one sampled before the transaction. -/
theorem test_poll_timeout : fieldOf (fun t => ((t.slot 0).snap.lastError, (t.slot 0).lastPollTick, t.schedPhase, t.scanI))
      (exec .poll { polling cfg1 .received [] with poll := ⟨0, cfg1, 509, f1, 17, 1021, .received, []⟩, time := 1_530_669 })
    = some (.errIoTimeout, 509, .scanning, 1) := by decide +kernel
/-- P2 at 29_669. -/
theorem test_poll_publish : fieldOf (fun t => (t.slot 0).snap.view) (exec .poll { polling cfg1 .received r1 with time := 29_669 })
    = some ⟨1, 0, 6, v1, 29, .ok⟩ := by decide +kernel
theorem test_sleep : fieldOf (fun t => (t.schedPhase, t.wakeAt)) (exec .sleep { scanning 32 with time := 29_669 })
    = some (.sleeping, 39_669) := by decide +kernel

/- ---- The step ---- -/

/-- The host's probe: the word is the first instruction after reset. -/
theorem test_fetch_count : resultOf (step (State.reset.withFetchWord 4 0b1001)) = some (.count 0) := by decide +kernel
theorem test_fetch_start : fieldOf (fun t => t.running) (step (State.reset.withFetchWord 4 0b1010)) = some true := by decide +kernel
theorem test_fetch_req8 : fieldOf (fun t => t.tphase) (step (State.reset.withFetchWord 64 0x010300000006C5C8)) = some .transmitting := by
  decide +kernel
/-- P2 between 0 and 8328: nothing but the passage of time, up to TX_DONE. -/
theorem test_time_passes : fieldOf (fun t => (t.time, t.tphase)) (step inFlight) = some (8328, .transmitting) := by decide +kernel
/-- A reserved command code is refused (R83). -/
theorem test_reserved : refusalOf (step { s96 with inputs := [⟨0, 0, .command 0xC {}⟩] }) = some (.reservedCommand 0xC) := by
  decide +kernel
/-- R207: an input yields to as many internal transitions as it says. -/
theorem test_yields : fieldOf (fun t => (t.schedPhase, t.inputs.map Input.yields)) (step { sleepy true with
      inputs := [⟨0, 2, .command 0x9 {}⟩] }) = some (.scanning, [1])
    ∧ resultOf (step { sleepy true with inputs := [⟨0, 0, .command 0x9 {}⟩] }) = some (.count 0) := by decide +kernel

/- ---- Witnesses: states and operands that meet the hypotheses of the statements ---- -/

/-- A coherent state, in the middle of P2. -/
theorem witness_transportOk : inFlight.TransportOk :=
  ⟨by decide, rfl, by decide, by decide, nofun, by
    intro r h
    obtain rfl : (⟨0, 17, 1021, .scheduler, []⟩ : RxOp) = r := by simpa [inFlight] using h
    decide⟩
theorem witness_windowsOk : inFlight.WindowsOk := ⟨by decide +kernel, by decide +kernel, by decide +kernel⟩
theorem witness_schedulerOk : inFlight.SchedulerOk :=
  ⟨by decide, nofun, by decide +kernel, ⟨nofun, nofun⟩, ⟨fun _ => by decide, fun _ => ⟨_, rfl, rfl⟩⟩, by decide +kernel⟩
theorem witness_registryOk : inFlight.RegistryOk := ⟨by decide +kernel, by decide +kernel, by decide +kernel, rfl⟩
theorem witness_ok : inFlight.Ok := ⟨witness_transportOk, witness_windowsOk, witness_schedulerOk, witness_registryOk⟩

/-- CrcBitShiftsAndFolds, CrcSeesEverySingleByte. -/
theorem witness_crc : (0x0001 : U16).getLsbD 0 = true ∧ (0xFFFE : U16).getLsbD 0 = false ∧ (0x00 : Byte) ≠ 0x01 := by decide
/-- RequestCarriesItsCrc. -/
theorem witness_request : build 1 0 6 8 = .ok f1 := by decide +kernel
/-- ParseOfSynthReturnsValues, at both ends of the range. -/
theorem witness_parseOfSynth : ((0 : U16).toNat ≤ 64 ∧ ([] : List U16).length = (0 : U16).toNat)
    ∧ (64 : U16).toNat ≤ 64 ∧ (List.replicate 64 (0xA5A5 : U16)).length = (64 : U16).toNat := by decide
/-- SingleByteCorruptionByPosition, at the ends of its three ranges. -/
theorem witness_corruption : parse r1 1 6 = .ok v1 ∧ r1.length = 5 + 2 * (6 : U16).toNat
    ∧ ∀ k ∈ [0, 1, 2, 3, 16], k < r1.length ∧ (0xAB : Byte) ≠ r1.getD k 0 := by decide +kernel
/-- ParseIgnoresTrailingBytes. -/
theorem witness_trailing : parse r1 1 6 = .ok v1 ∧ 128 ≤ (128 : U16).toNat ∧ 128 ≤ (0xFFFF : U16).toNat := by decide +kernel
/-- PollNeverSeesShortFrameOrBuildError; for its last clause `witness_schedulerOk`, and a poll that records an error. -/
theorem witness_pollFrame : expectedLen cfg1 ≤ r1.length
    ∧ fieldOf (fun t => (t.slot 0).snap.lastError) (exec .poll (polling cfg1 .received [])) = some .errIoTimeout := by decide +kernel
/-- That state is coherent. -/
theorem witness_pollOk : (polling cfg1 .received []).SchedulerOk :=
  ⟨by decide, nofun, by decide +kernel, ⟨nofun, nofun⟩, ⟨nofun, nofun⟩, by decide +kernel⟩
/-- SynthReturnsResponseFrame, its limit and one beyond; each half of the precondition fails once. -/
theorem witness_synth : (List.replicate 127 (0 : U16)).length = 127 ∧ 127 ≤ 127
    ∧ ¬((List.replicate 128 (0 : U16)).length = 128 ∧ 128 ≤ 127) ∧ ¬(([] : List U16).length = 1 ∧ 1 ≤ 127) := by decide +kernel
/-- PureAndReadersChangeOnlyResult, OperationsTakeNoTime: each of the six completes somewhere. -/
theorem witness_readers : (∃ t, exec (.crc16 [1]) s96 = .next t) ∧ (∃ t, exec (.build 1 0 6 8) s96 = .next t)
    ∧ (∃ t, exec (.parse r1 1 6) s96 = .next t) ∧ (∃ t, exec (.synth 1 6 v1) s96 = .next t)
    ∧ (∃ t, exec (.snapshot 0) inFlight = .next t) ∧ ∃ t, exec .count s96 = .next t :=
  ⟨⟨_, rfl⟩, ⟨_, rfl⟩, ⟨_, rfl⟩, ⟨_, rfl⟩, ⟨_, rfl⟩, ⟨_, rfl⟩⟩
/-- CharTimeFormula: every rate of its table; ResponseTimeoutFormula: both rates, at both sides of 56 and at 64 registers. -/
theorem witness_rates : (⟨299⟩ : Baud).rate = 300 ∧ (⟨1199⟩ : Baud).rate = 1200 ∧ (⟨2399⟩ : Baud).rate = 2400
    ∧ (⟨4799⟩ : Baud).rate = 4800 ∧ (⟨9599⟩ : Baud).rate = 9600 ∧ (⟨19199⟩ : Baud).rate = 19200 ∧ (⟨38399⟩ : Baud).rate = 38400
    ∧ (⟨57599⟩ : Baud).rate = 57600 ∧ (⟨115199⟩ : Baud).rate = 115200
    ∧ timeoutMs ⟨299⟩ (expectedLen ⟨1, 0, 55, 0⟩) = 4949 ∧ timeoutMs ⟨299⟩ (expectedLen ⟨1, 0, 56, 0⟩) = 5000
    ∧ (64 : U16).toNat ≤ 64 := by decide +kernel
/-- ResponseTimeoutFormula: the greatest rates of its low-rate clauses, the bound of the upper clamp, and a poll that latches. -/
theorem witness_timeout : (⟨340⟩ : Baud).rate ≤ 341 ∧ (⟨50⟩ : Baud).rate ≤ 51
    ∧ 4_001_000 ≤ (7 * charTimeUs ⟨340⟩ + 1) / 2 + (5 + 2 * 64) * charTimeUs ⟨340⟩
    ∧ (7 * charTimeUs ⟨341⟩ + 1) / 2 + (5 + 2 * 64) * charTimeUs ⟨341⟩ < 4_001_000
    ∧ fieldOf (fun t => t.poll.timeoutMs) (exec .poll (polling cfg1 .start [])) = some 1021
    ∧ (polling cfg1 .start []).schedPhase = .inPoll ∧ (polling cfg1 .start []).poll.step = .start := by decide +kernel
/-- SleepEndsScan, StartCreatesOneTask: their last clauses, and CountReturnsSlaveCount by `witness_registryOk`. -/
theorem witness_urgent : fieldOf State.time (step (scanning 32)) = some 0
    ∧ fieldOf State.taskAlive (exec .start s96) = some true ∧ s96.taskAlive = false := by decide +kernel
/-- TransmitGrantedOnIdleBus. -/
theorem witness_idle : s96.taskAlive = false ∧ s96.tphase = .idle := by decide
/-- BusyTransmitWaits, its three clauses, for either form: the frames of `f1` are the request of P2. -/
theorem witness_busyForm : (Instr.req8 1 0 6 0xC8C5 = .req8 1 0 6 0xC8C5)
    ∧ f1 = [1, 0x03, (0 : U16).extractLsb' 8 8, (0 : U16).extractLsb' 0 8, (6 : U16).extractLsb' 8 8, (6 : U16).extractLsb' 0 8,
      (0xC8C5 : U16).extractLsb' 0 8, (0xC8C5 : U16).extractLsb' 8 8] := by decide
/-- BusyTransmitWaits, the conditions of its three clauses. -/
theorem witness_busy : (busy.taskAlive = false ∧ busy.tphase ≠ .idle ∧ busy.busWait = none)
    ∧ ((waiting .bench).taskAlive = false ∧ (waiting .bench).tphase ≠ .idle ∧ (waiting .bench).busWait ≠ none)
    ∧ inFlight.taskAlive = true := by decide
/-- LineBytesAnswerReceive: bytes that are no response frame, at the end of the window, for either caller; one byte short, enough, and
none pending; and the step they make. -/
theorem witness_lineBytes : (∀ c ∈ [Caller.bench, .scheduler],
      let s := { reading c with time := 1_021_000, inputs := [⟨1_021_000, 3, .rxLine (List.replicate 17 0xFF)⟩] };
      s.txDoneEnabled = false ∧ s.deReleaseEnabled = false ∧ s.busWaitExpired = false ∧ s.rxExpired = true
        ∧ s.rxOp = some ⟨0, 17, 1021, c, []⟩ ∧ 17 ≤ ([] : List Byte).length + (List.replicate 17 (0xFF : Byte)).length)
    ∧ ([] : List Byte).length + (List.replicate 16 (0xFF : Byte)).length < 17
    ∧ s96.rxOp = none ∧ s96.internalEvent = none
    ∧ resultOf (step { reading .bench with time := 1_021_000, inputs := [⟨1_021_000, 3, .rxLine (List.replicate 17 0xFF)⟩] })
      = some (.bytes (List.replicate 17 0xFF)) := by decide +kernel
/-- BusWaitEndsInBusBusy, for either caller. -/
theorem witness_busBusy : ∀ c ∈ [Caller.bench, .scheduler],
    let s := { waiting c with time := 205_000, deTimer := ⟨true, 366_663⟩ };
    s.busWait = some ⟨5000, f2, c⟩ ∧ s.time = 5000 + 200_000 ∧ s.txDoneEnabled = false ∧ s.deReleaseEnabled = false
      ∧ s.regLock = .free := by decide +kernel
/-- TxDoneEndsTransmitting: at the instant, and one before. -/
theorem witness_txDone : ({ busy with time := 8328 }.tphase = .transmitting ∧ { busy with time := 8328 }.time = busy.txDataEnd)
    ∧ ¬({ busy with time := 8327 }.tphase = .transmitting ∧ { busy with time := 8327 }.time = busy.txDataEnd) := by decide
/-- DeReleaseFreesBus: without a waiter, with one, and one microsecond early. -/
theorem witness_deRelease :
    (let s := { busy with time := 11451 }; s.deTimer.armed = true ∧ s.time = s.deTimer.deadline ∧ s.busWait = none)
    ∧ (let s := waiting .scheduler; s.deTimer.armed = true ∧ s.time = s.deTimer.deadline
        ∧ s.busWait = some ⟨5000, f2, .scheduler⟩)
    ∧ (let s := { busy with time := 11450 }; ¬(s.deTimer.armed = true ∧ s.time = s.deTimer.deadline)) := by decide
/-- ReceiveIssued: 134, 133, 1 and 0 bytes with none pending; one pending; the task alive. -/
theorem witness_receive : s96.taskAlive = false ∧ 133 < 134 ∧ 133 ≤ 133 ∧ 0 < 133 ∧ 0 < 1 ∧ 1 ≤ 133 ∧ s96.rxOp = none
    ∧ ((reading .bench).taskAlive = false ∧ (reading .bench).rxOp ≠ none) ∧ inFlight.taskAlive = true := by decide
/-- ResponseFrameAnswersReceive: a frame that just fills the read, for either caller; one a byte short; none pending. -/
theorem witness_response : (∀ c ∈ [Caller.bench, .scheduler], (reading c).rxOp = some ⟨0, 17, 1021, c, []⟩)
    ∧ 17 ≤ ([] : List Byte).length + r1.length ∧ ([] : List Byte).length + (r1.take 16).length < 17 ∧ s96.rxOp = none := by decide
/-- ReceiveWindowEnds, for either caller. -/
theorem witness_windowEnds : ∀ c ∈ [Caller.bench, .scheduler],
    let s := { reading c with time := 1_021_000 };
    s.rxOp = some ⟨0, 17, 1021, c, []⟩ ∧ s.time = 0 + 1021 * 1000 ∧ s.txDoneEnabled = false ∧ s.deReleaseEnabled = false
      ∧ s.busWaitExpired = false ∧ s.inputs = [] := by decide +kernel
/-- DeFallsOnlyAtRelease, both clauses: a coherent state, and a release and a grant that happen. -/
theorem witness_deFalls : fieldOf State.de (step { busy with time := 11451, tphase := .guardBand }) = some false
    ∧ busy.de = true ∧ fieldOf State.txStream (step (waiting .bench)) = some [(0, f1), (11451, f2)]
    ∧ (waiting .bench).deTimer.armed = true ∧ (waiting .bench).txStream = [(0, f1)] := by decide +kernel
/-- RegisterTakesLowestFreeSlot: slot 0 free, only slot 31 free, none free. -/
theorem witness_register : (s96.regLock = .free ∧ (s96.slot 0).inUse = false)
    ∧ (let s := full.setSlot 31 SlaveState.blank;
        s.regLock = .free ∧ (s.slot 31).inUse = false ∧ ∀ j : Fin 32, j < 31 → (s.slot j).inUse = true)
    ∧ ∀ j, (full.slot j).inUse = true := by decide +kernel
/-- RegisteredSlotIsDue, with the greatest sum the statement admits. -/
theorem witness_due : resultOf (exec (.register cfg1) s96) = some (.slotIndex 0) ∧ s96.time ≤ 4_294_966_795_999
    ∧ (effInterval cfg1).toNat + (4_294_966_795_999 / 1000 - s96.time / 1000) < 2 ^ 32 := by decide +kernel
/-- UnregisterFreesSlot, SnapshotReturnsSlotWhole: the first and the last slot; the indices just outside, a free slot; the polled one. -/
theorem witness_slots : (∀ i ∈ [(0 : Fin 32), 31], (full.slot i).inUse = true ∧ full.schedPhase ≠ .inPoll ∧ full.regLock = .free)
    ∧ (-1 : Int) < 0 ∧ (31 : Int) < 32 ∧ (s96.slot 0).inUse = false
    ∧ ((inFlight.slot 0).inUse = true ∧ inFlight.schedPhase = .inPoll ∧ inFlight.poll.slot = 0) := by decide +kernel
/-- UsedSlotChangesOnlyByItsPoll, SnapshotOldOrNew, TimeAndLogsOnlyGrow, StepKeepsTransportWindows, StepKeepsSchedulerAndRegistry,
BlockLeavesRegistrationAlone: from the coherent `inFlight` (`witness_ok`) a step is taken, its slot 0 is in use, and no input comes. -/
theorem witness_step : (∃ t, step inFlight = .next t) ∧ (inFlight.slot 0).inUse = true ∧ inFlight.nextMove = .advance :=
  ⟨⟨_, rfl⟩, by decide +kernel, by decide +kernel⟩
/-- UsedSlotChangesOnlyByItsPoll: a snapshot that changes. -/
theorem witness_changes : fieldOf (fun t => (t.slot 0).snap.lastError) (step (polling cfg1 .received [])) = some .errIoTimeout
    ∧ ((polling cfg1 .received []).slot 0).snap.lastError = .ok := by decide +kernel
/-- StartCreatesOneTask, WakeExitsOrStartsScan, SleepEndsScan: every clause. -/
theorem witness_lifecycle : s96.taskAlive = false ∧ inFlight.taskAlive = true
    ∧ (∀ r, (sleepy r).schedPhase = .sleeping ∧ (sleepy r).time = (sleepy r).wakeAt ∧ (sleepy r).running = r)
    ∧ ¬(s96.schedPhase = .sleeping ∧ s96.time = s96.wakeAt)
    ∧ ((scanning 32).schedPhase = .scanning ∧ (scanning 32).scanI.val = 32)
    ∧ ¬((scanning 31).schedPhase = .scanning ∧ (scanning 31).scanI.val = 32) := by decide +kernel
/-- ScanStepExaminesOneSlot: a free slot (the last), one that is not due by one tick, and one that is just due. -/
theorem witness_scan : ((scanning 31).schedPhase = .scanning ∧ (scanning 31).scanI.val = 31 ∧ ((scanning 31).slot 31).inUse = false)
    ∧ (let s := { (scanning 0).setSlot 0 { freshSlot cfg1 0 with lastPollTick := 0 } with time := 499_999 };
        s.scanI.val = 0 ∧ (s.slot 0).inUse = true ∧ (BitVec.ofNat 32 (s.time / 1000) - (s.slot 0).lastPollTick).toNat < 500)
    ∧ (let s := { (scanning 0).setSlot 0 { freshSlot cfg1 0 with lastPollTick := 0 } with time := 500_000 };
        s.scanI.val = 0 ∧ (s.slot 0).inUse = true ∧ 500 ≤ (BitVec.ofNat 32 (s.time / 1000) - (s.slot 0).lastPollTick).toNat) := by
  decide +kernel
/-- PollIssuesTransmit: the bus idle, and busy with no waiter. -/
theorem witness_pollStart : (let s := polling cfg1 .start []; s.schedPhase = .inPoll ∧ s.poll.step = .start ∧ s.tphase = .idle)
    ∧ (let s := { polling cfg1 .start [] with tphase := .guardBand }; s.tphase ≠ .idle ∧ s.busWait = none) := by decide +kernel
/-- PollIssuesReceive: 133 bytes, and 135 bytes. -/
theorem witness_pollGranted : (let s := polling ⟨1, 0, 64, 1000⟩ .granted [];
      s.schedPhase = .inPoll ∧ s.poll.step = .granted ∧ s.poll.expectedLen ≤ 133 ∧ 0 < s.poll.expectedLen ∧ s.rxOp = none)
    ∧ (let s := polling cfg65 .granted [];
        s.schedPhase = .inPoll ∧ s.poll.step = .granted ∧ 133 < s.poll.expectedLen ∧ s.regLock = .free) := by decide +kernel
/-- PollPublishesAcceptedResponse, PollRecordsFailure: a response accepted, one a byte short, one rejected. -/
theorem witness_pollReceived : (let s := polling cfg1 .received r1;
      s.schedPhase = .inPoll ∧ s.poll.step = .received ∧ s.regLock = .free ∧ s.poll.expectedLen ≤ s.poll.rxbuf.length
        ∧ parse s.poll.rxbuf s.poll.cfg.address s.poll.cfg.registerCount = .ok v1)
    ∧ (let s := polling cfg1 .received (r1.take 16); s.poll.rxbuf.length < s.poll.expectedLen)
    ∧ (let s := polling cfg1 .received (r1.set 16 0x32); s.poll.expectedLen ≤ s.poll.rxbuf.length
        ∧ parse s.poll.rxbuf s.poll.cfg.address s.poll.cfg.registerCount = .error .errCrcMismatch) := by decide +kernel
/-- TimePassesToNextDeadline: nothing pending, and something pending. -/
theorem witness_timePasses : (s96.calm = true ∧ s96.internalEvent = none ∧ s96.inputs.head? = none ∧ s96.deadlines = []
      ∧ s96.horizon = [])
    ∧ (inFlight.calm = true ∧ inFlight.internalEvent = none ∧ inFlight.inputs.head? = none ∧ (∀ d ∈ inFlight.deadlines, 0 ≤ d)
      ∧ inFlight.time = 0 ∧ inFlight.horizon ≠ []) := by decide +kernel
/-- TimerEventsFireFirst: each of its four clauses, with an input that is due and waits. -/
theorem witness_timerFirst :
    (let s := { busy with time := 8328, inputs := [⟨0, 0, .command 0x9 {}⟩] }; s.tphase = .transmitting ∧ s.time = s.txDataEnd)
    ∧ (let s := waiting .bench; ¬(s.tphase = .transmitting ∧ s.time = s.txDataEnd) ∧ s.deTimer.armed = true
        ∧ s.time = s.deTimer.deadline)
    ∧ (let s := { waiting .bench with time := 205_000 }; s.txDoneEnabled = false ∧ s.deReleaseEnabled = false
        ∧ s.busWait = some ⟨5000, f2, .bench⟩ ∧ s.time = 5000 + 200_000)
    ∧ (let s := sleepy true; s.calm = true ∧ s.internalEvent = some .wake ∧ s.dueInput = none) := by decide +kernel
/-- SchedulerEventMayGoFirstAndIsUrgent: an operation that lets one SCAN_STEP or SLEEP go first; and the step it is stated of. -/
theorem witness_yields : (∀ k ∈ [(0 : Fin 33), 31, 32],
      let s := { scanning k with inputs := [⟨0, 1, .command 0xB {}⟩] };
      s.calm = true ∧ s.schedPhase = .scanning ∧ s.internalEvent = some (if k.val < 32 then .scanStep else .sleep))
    ∧ fieldOf (fun t => (t.scanI.val, t.time, t.inputs)) (step { scanning 31 with inputs := [⟨0, 1, .command 0xB {}⟩] })
      = some (32, 0, [⟨0, 0, .command 0xB {}⟩]) := by decide +kernel
/-- StepRunsDecodedInstruction, CommandCodes: with and without an internal event, from the list and from a table word. -/
theorem witness_decoded : s96.calm = true ∧ s96.internalEvent = none ∧ (sleepy true).calm = true
    ∧ (sleepy true).internalEvent = some .wake ∧ (⟨0, 0, .command 0x9 {}⟩ : Input).due ≤ s96.time
    ∧ decode (.command 0x9 {}) = .ok .count ∧ decodeTableWord 4 0x9 = some .count := by decide +kernel
/-- BlockNeverStopsByItself: `witness_ok`, and only the scheduler's calls are pending. -/
theorem witness_alone : inFlight.inputs = [] ∧ inFlight.busWait = none ∧ inFlight.rxOp.map RxOp.caller = some .scheduler := by
  decide +kernel
/-- DecodeInvertsEncode, EncodeInvertsDecode: each kind of port word. -/
theorem witness_encode : (Instr.rspv 2 [0xBE, 0xEF] 0x68CC).wf = true
    ∧ encode (.rspv 2 [0xBE, 0xEF] 0x68CC) = some (.rxLine [0x02, 0x03, 0x02, 0xBE, 0xEF, 0xCC, 0x68])
    ∧ decode (.rxLine [0x02, 0x03, 0x02, 0xBE, 0xEF, 0xCC, 0x68]) = .ok (.rspv 2 [0xBE, 0xEF] 0x68CC)
    ∧ decode (.txFrame f1) = .ok (.req8 1 0 6 0xC8C5) ∧ decode (.command 0x7 { slotIndex := -1 }) = .ok (.unregister (-1)) := by
  decide +kernel

set_option maxRecDepth 8000 in
/-- 2.3: 65 registers and a valid CRC are rejected by the last check. The long CRC makes this the file's slowest test. -/
theorem test_parse_limit : parse (synth 1 65 (List.replicate 65 0)) 1 65 = .error .errTooManyRegisters := by decide +kernel

end Sys2Proof.Tests
end

section
/-! Proofs about the CRC Engine's `crc_bit` and `crc_byte` (40_crc.md R100, R101). -/

namespace Sys2Proof.Machine

theorem crcBit_of_low_set {c : U16} (h : c.getLsbD 0 = true) : crcBit c = (c >>> 1) ^^^ 0xA001 := by
  rw [crcBit, if_pos h, Config.CRC_POLY]

theorem crcBit_of_low_clear {c : U16} (h : c.getLsbD 0 = false) : crcBit c = c >>> 1 := by
  rw [crcBit, if_neg (Bool.eq_false_iff.mp h)]

/-- The shift is logical, so bit 15 of the result can only come from the polynomial: a later bit-serial argument reads back
from it which branch was taken. -/
theorem crcBit_getLsbD_fifteen (c : U16) : (crcBit c).getLsbD 15 = c.getLsbD 0 := by
  have shifted : (c >>> 1).getLsbD 15 = false := by simp
  have poly : (0xA001 : U16).getLsbD 15 = true := by decide
  cases h : c.getLsbD 0 with
  | true => rw [crcBit_of_low_set h, BitVec.getLsbD_xor, shifted, poly, Bool.false_xor]
  | false => rw [crcBit_of_low_clear h, shifted]

theorem crcByte_eq_iterate (c : U16) (b : Byte) : crcByte c b = crcBit^[8] (c ^^^ b.setWidth 16) := rfl

@[simp] theorem hiByte_xor (c d : U16) : hiByte (c ^^^ d) = hiByte c ^^^ hiByte d := BitVec.extractLsb'_xor

@[simp] theorem hiByte_setWidth (b : Byte) : hiByte (b.setWidth 16) = 0 := by
  ext i hi
  simp [hiByte]

theorem hiByte_xor_setWidth (c : U16) (b : Byte) : hiByte (c ^^^ b.setWidth 16) = hiByte c := by
  rw [hiByte_xor, hiByte_setWidth]
  exact BitVec.xor_zero

/-- Settles O1: the two branches of `crc_bit`, its bit 15, and R100's examples by evaluation. -/
theorem crcBitShiftsAndFolds : Obligations.CrcBitShiftsAndFolds :=
  ⟨fun _ => crcBit_of_low_set, fun _ => crcBit_of_low_clear, crcBit_getLsbD_fifteen, by decide⟩

/-- Settles O2: `crc_byte` as an iterate of `crc_bit`, the untouched high byte, and R101's examples by evaluation. -/
theorem crcByteIsEightBits : Obligations.CrcByteIsEightBits :=
  ⟨fun c b => ⟨crcByte_eq_iterate c b, hiByte_xor_setWidth c b⟩, by decide⟩

end Sys2Proof.Machine
end

section
/-! Proofs about single-byte errors under CRC16 (40_crc.md R104 (d)): `crc_bit`, so `crc_byte`, is injective in the running value,
and `crc_byte` is injective in the byte. -/

namespace Sys2Proof.Machine

theorem crcBit_injective : Function.Injective crcBit := by
  intro c d h
  have low : c.getLsbD 0 = d.getLsbD 0 := by rw [← crcBit_getLsbD_fifteen, h, crcBit_getLsbD_fifteen]
  have shifted : c >>> 1 = d >>> 1 := by
    cases hc : c.getLsbD 0 with
    | true =>
      rw [crcBit_of_low_set hc, crcBit_of_low_set (low ▸ hc)] at h
      exact (BitVec.xor_left_inj _).mp h
    | false => rwa [crcBit_of_low_clear hc, crcBit_of_low_clear (low ▸ hc)] at h
  apply BitVec.eq_of_getLsbD_eq
  intro i _
  cases i with
  | zero => exact low
  | succ i => simpa [Nat.add_comm] using congrArg (BitVec.getLsbD · i) shifted

theorem crcByte_injective (b : Byte) : Function.Injective (crcByte · b) := fun _ _ h =>
  (BitVec.xor_left_inj _).mp (crcBit_injective.iterate 8 h)

theorem crcByte_injective_byte (c : U16) : Function.Injective (crcByte c) := by
  intro b b' h
  have widened : b.setWidth 16 = b'.setWidth 16 := (BitVec.xor_right_inj c).mp (crcBit_injective.iterate 8 h)
  simpa using congrArg (BitVec.setWidth 8) widened

theorem foldl_crcByte_injective (bytes : List Byte) : Function.Injective (bytes.foldl crcByte) := by
  induction bytes with
  | nil => exact Function.injective_id
  | cons b bytes ih => exact ih.comp (crcByte_injective b)

theorem crc16_append_cons_ne (x y : List Byte) {b b' : Byte} (h : b ≠ b') : crc16 (x ++ b :: y) ≠ crc16 (x ++ b' :: y) := by
  intro heq
  simp only [crc16, List.foldl_append, List.foldl_cons] at heq
  exact h (crcByte_injective_byte _ (foldl_crcByte_injective y heq))

theorem crc16_set_ne {bytes : List Byte} {k : Nat} {b : Byte} (hk : k < bytes.length) (hb : b ≠ bytes[k]) :
    crc16 (bytes.set k b) ≠ crc16 bytes := by
  have split : bytes = bytes.take k ++ bytes[k] :: bytes.drop (k + 1) := by simp
  rw [List.set_eq_take_append_cons_drop, if_pos hk]
  conv => rhs; rw [split]
  exact crc16_append_cons_ne _ _ hb

end Sys2Proof.Machine
end

section
/-! Proofs about the Frame Codec: where the bytes of a synthetic response stand (41_frame_codec.md R116, R117), and what one changed
byte of an accepted frame does to the checks of PARSE (R111, R118). -/

namespace Sys2Proof.Machine

@[simp] theorem synth_length (a : Byte) (n : Nat) (vs : List U16) : (synth a n vs).length = 5 + 2 * vs.length := by
  simp [synth, crcBytes]
  omega

/-- The bytes of a synthetic response before its CRC. -/
theorem synth_take (a : Byte) (n : Nat) (vs : List U16) :
    (synth a n vs).take (3 + 2 * vs.length) = [a, Config.FUNC_READ, BitVec.ofNat 8 (2 * n)] ++ encodeWords vs :=
  List.take_left' (by simp; omega)

/-- The CRC bytes of a synthetic response stand behind its data. -/
theorem byteAt_synth_crc (a : Byte) (n : Nat) (vs : List U16) (i : Nat) : byteAt (synth a n vs) (3 + 2 * vs.length + i)
    = byteAt (crcBytes (crc16 ((synth a n vs).take (3 + 2 * vs.length)))) i := by
  rw [synth_take, byteAt, byteAt, synth, List.getD_append_right _ _ _ _ (by simp; omega)]
  congr 1
  simp
  omega

theorem crc16_synth_take (a : Byte) (n : Nat) (vs : List U16) : crc16 ((synth a n vs).take (3 + 2 * vs.length))
    = le16 (byteAt (synth a n vs) (3 + 2 * vs.length)) (byteAt (synth a n vs) (4 + 2 * vs.length)) := by
  have low := byteAt_synth_crc a n vs 0
  have high := byteAt_synth_crc a n vs 1
  rw [Nat.add_zero] at low
  rw [Nat.add_right_comm] at high
  rw [low, high]
  exact (le16_split _).symm

/-- Data byte `i` of a synthetic response stands behind its three header bytes. -/
theorem byteAt_synth_data (a : Byte) (n : Nat) (vs : List U16) {i : Nat} (hi : i < 2 * vs.length) :
    byteAt (synth a n vs) (3 + i) = (encodeWords vs).getD i 0 := by
  rw [Nat.add_comm]
  exact List.getD_append (encodeWords vs) (crcBytes _) 0 i (by simpa using hi)

/-- The big-endian words of a synthetic response are the values it was made of (20_memory.md R53). -/
theorem decodeWords_synth (a : Byte) (n : Nat) (vs : List U16) : decodeWords (synth a n vs) vs.length = vs := by
  apply List.ext_getElem (decodeWords_length ..)
  intro k _ hk
  obtain ⟨hhi, hlo⟩ := encodeWords_getD vs k hk
  simp only [decodeWords, List.getElem_map, List.getElem_range]
  rw [show 4 + 2 * k = 3 + (2 * k + 1) by omega, byteAt_synth_data a n vs (by omega), byteAt_synth_data a n vs (by omega), hhi, hlo,
    be16_split, List.getD_eq_getElem]

/-- Settles O10: a synthetic response passes every check of R111, and its data bytes decode to the values. -/
theorem parseOfSynthReturnsValues : Obligations.ParseOfSynthReturnsValues := by
  intro a n vs hn hvs
  rw [parse_ok_iff, ← hvs]
  have byteCount : (byteAt (synth a vs.length vs) 2).toNat = 2 * vs.length := Nat.mod_eq_of_lt (by omega)
  exact ⟨by simp, rfl, rfl, byteCount, by simp, crc16_synth_take .., by omega, (decodeWords_synth ..).symm⟩

theorem parse_of_header_mismatch {f : List Byte} {a : Byte} {n : U16} (hlen : 5 ≤ f.length)
    (h : byteAt f 0 ≠ a ∨ byteAt f 1 ≠ 0x03) : parse f a n = .error .errAddressOrFunctionMismatch :=
  (if_neg (Nat.not_lt.mpr hlen)).trans (if_pos h)

theorem parse_of_byteCount_mismatch {f : List Byte} {a : Byte} {n : U16} (hlen : 5 ≤ f.length) (h0 : byteAt f 0 = a)
    (h1 : byteAt f 1 = 0x03) (h : (byteAt f 2).toNat ≠ 2 * n.toNat) : parse f a n = .error .errByteCountMismatch :=
  (if_neg (Nat.not_lt.mpr hlen)).trans ((if_neg (not_or_intro (not_not.mpr h0) (not_not.mpr h1))).trans (if_pos h))

theorem parse_of_crc_mismatch {f : List Byte} {a : Byte} {n : U16} (hlen : 5 + 2 * n.toNat ≤ f.length) (h0 : byteAt f 0 = a)
    (h1 : byteAt f 1 = 0x03) (h2 : (byteAt f 2).toNat = 2 * n.toNat)
    (h : crc16 (f.take (3 + 2 * n.toNat)) ≠ le16 (byteAt f (3 + 2 * n.toNat)) (byteAt f (4 + 2 * n.toNat))) :
    parse f a n = .error .errCrcMismatch := by
  have hmin : 5 ≤ f.length := by omega
  rw [← h2] at hlen h
  calc
    _ = _ := if_neg (Nat.not_lt.mpr hmin)
    _ = _ := if_neg (not_or_intro (not_not.mpr h0) (not_not.mpr h1))
    _ = _ := if_neg (not_not.mpr h2)
    _ = _ := if_neg (Nat.not_lt.mpr hlen)
    _ = _ := if_pos h

@[simp] theorem byteAt_set_self {f : List Byte} {k : Nat} (b : Byte) (hk : k < f.length) : byteAt (f.set k b) k = b := by
  simp [byteAt, hk]

@[simp] theorem byteAt_set_ne (f : List Byte) {k i : Nat} (b : Byte) (h : k ≠ i) : byteAt (f.set k b) i = byteAt f i := by
  simp [byteAt, List.getD_eq_getElem?_getD, h]

/-- The CRC check of an accepted frame fails when one data byte or one CRC byte is changed: a data byte changes the CRC
(40_crc.md R104 (d)), a CRC byte the value it is compared with. -/
theorem crc_check_set_ne {f : List Byte} {n k : Nat} {b : Byte} (hlen : f.length = 5 + 2 * n) (hk : k < f.length)
    (hb : b ≠ byteAt f k) (hcrc : crc16 (f.take (3 + 2 * n)) = le16 (byteAt f (3 + 2 * n)) (byteAt f (4 + 2 * n))) :
    crc16 ((f.set k b).take (3 + 2 * n)) ≠ le16 (byteAt (f.set k b) (3 + 2 * n)) (byteAt (f.set k b) (4 + 2 * n)) := by
  rcases (by omega : k < 3 + 2 * n ∨ k = 3 + 2 * n ∨ k = 4 + 2 * n) with hdata | rfl | rfl
  · rw [List.take_set, byteAt_set_ne f b (by omega), byteAt_set_ne f b (by omega), ← hcrc]
    exact crc16_set_ne (by simpa using ⟨hdata, hk⟩) (by simpa [byteAt, hk] using hb)
  · rw [List.take_set_of_le le_rfl, hcrc, byteAt_set_self b hk]
    exact fun h => hb (by simpa using (congrArg loByte h).symm)
  · rw [List.take_set_of_le (by omega), hcrc, byteAt_set_self b hk]
    exact fun h => hb (by simpa using (congrArg hiByte h).symm)

/-- Settles O11: the checks before the changed byte's still pass, and its own fails. -/
theorem singleByteCorruptionByPosition : Obligations.SingleByteCorruptionByPosition := by
  intro f a n vs hparse hlen k b hk hb
  obtain ⟨hmin, h0, h1, h2, hfit, hcrc, -, -⟩ := (parse_ok_iff f a n vs).mp hparse
  rw [← List.length_set (i := k) (a := b)] at hmin hfit
  rcases (by omega : k = 0 ∨ k = 1 ∨ k = 2 ∨ 3 ≤ k) with rfl | rfl | rfl | h3
  · exact parse_of_header_mismatch hmin (.inl (by rwa [byteAt_set_self b hk, ← h0]))
  · exact parse_of_header_mismatch hmin (.inr (by rwa [byteAt_set_self b hk, ← h1]))
  · refine parse_of_byteCount_mismatch hmin (by simpa using h0) (by simpa using h1) ?_
    rw [byteAt_set_self b hk, ← h2]
    exact fun h => hb (BitVec.eq_of_toNat_eq h)
  · rw [if_neg (by omega), if_neg (by omega)]
    have unchanged : ∀ i < 3, byteAt (f.set k b) i = byteAt f i := fun i hi => byteAt_set_ne f b (by omega)
    exact parse_of_crc_mismatch hfit ((unchanged 0 (by decide)).trans h0) ((unchanged 1 (by decide)).trans h1)
      (by rwa [unchanged 2 (by decide)]) (crc_check_set_ne hlen hk hb hcrc)

end Sys2Proof.Machine
end

section
/-! Proofs about the Bus Transport's character time (42_bus_transport.md R126). -/

namespace Sys2Proof.Machine

theorem charTimeUs_le (b : Baud) : charTimeUs b ≤ 10_000_000 := Nat.div_le_self ..

/-- The character time in whole microseconds is no longer than the true one, `10_000_000 / BAUD`. -/
theorem charTimeUs_mul_rate_le (b : Baud) : charTimeUs b * b.rate ≤ 10_000_000 := Nat.div_mul_le_self ..

/-- One microsecond more is longer than the true character time. -/
theorem lt_charTimeUs_succ_mul_rate (b : Baud) : 10_000_000 < (charTimeUs b + 1) * b.rate :=
  Nat.lt_mul_of_div_lt (Nat.lt_succ_self (charTimeUs b)) (rate_pos b)

/-- Settles O16: the bounds of a quotient by a rate in `1 .. 10_000_000`, and R126's nine values by evaluation of the formula. -/
theorem charTimeFormula : Obligations.CharTimeFormula := by
  refine ⟨fun b => ⟨charTimeUs_eq b, charTimeUs_pos b, charTimeUs_le b, charTimeUs_mul_rate_le b,
    lt_charTimeUs_succ_mul_rate b⟩, fun b p hp hrate => ?_⟩
  rw [charTimeUs_eq, hrate]
  clear hrate
  revert p
  decide

end Sys2Proof.Machine
end

section
/-! Proofs about the Slave Registry's `COUNT` (43_registry.md R156). -/

namespace Sys2Proof.Machine

/-- The meaning of `COUNT` names no lock, so it is the same whatever the lock is. -/
theorem exec_count (s : State) : exec .count s = .next { s with result := some (.count s.slaveCount) } := rfl

/-- A coherent count is a count of slots, and there are 32 of them (10_state.md R33). -/
theorem State.RegistryOk.slaveCount_le {s : State} (h : s.RegistryOk) : s.slaveCount ≤ Config.MAX_SLAVES := by
  calc s.slaveCount
    _ = (List.finRange Config.MAX_SLAVES).countP fun i => (s.slot i).inUse := h.count
    _ ≤ (List.finRange Config.MAX_SLAVES).length := List.countP_le_length
    _ = Config.MAX_SLAVES := List.length_finRange

/-- Settles O31: the meaning of `COUNT` in every state, at reset with the count 0 there; a coherent count's bound; the code by
evaluation. -/
theorem countReturnsSlaveCount : Obligations.CountReturnsSlaveCount :=
  ⟨exec_count, fun _ registryOk => registryOk.slaveCount_le, exec_count State.reset, by decide⟩

end Sys2Proof.Machine
end

section
/-! Proofs about the Poll Scheduler's START (44_scheduler.md R165). -/

namespace Sys2Proof.Machine

theorem exec_start_of_stopped {s : State} (h : s.taskAlive = false) : exec .start s = .next { s with
    running := true, taskAlive := true, schedPhase := .sleeping, wakeAt := s.time } :=
  if_neg (Bool.eq_false_iff.mp h)

theorem exec_start_of_alive {s : State} (h : s.taskAlive = true) : exec .start s = .next { s with running := true } :=
  if_pos h

/-- A task that sleeps until this instant is woken at it. -/
theorem internalEvent_of_wake_due {s : State} (hphase : s.schedPhase = .sleeping) (hwake : s.wakeAt = s.time) :
    s.internalEvent = some .wake := by
  have enabled : s.wakeEnabled = true := by simp [State.wakeEnabled, hphase, hwake]
  exact if_pos enabled

/-- Settles O35: the two branches of START, the wake it makes due at once, and its code by evaluation. -/
theorem startCreatesOneTask : Obligations.StartCreatesOneTask := by
  refine fun s => ⟨exec_start_of_stopped, exec_start_of_alive, fun t hstopped hexec => ?_, by decide⟩
  rw [exec_start_of_stopped hstopped] at hexec
  cases hexec
  exact internalEvent_of_wake_due rfl rfl

end Sys2Proof.Machine
end

section
/-! Proofs about the Poll Scheduler's response time-out: the formula's bounds and values, and its latch (44_scheduler.md R175). -/

namespace Sys2Proof.Machine

/-- The request of a poll always fits its buffer, so step 1 of the poll never fails (R173). -/
theorem build_txCap (a : Byte) (start n : U16) : build a start n Config.TX_CAP
    = .ok (req8Header a start n ++ crcBytes (crc16 (req8Header a start n))) :=
  if_neg (Nat.lt_irrefl 8)

theorem exec_poll_of_start {s : State} (hphase : s.schedPhase = .inPoll) (hstep : s.poll.step = .start) :
    exec .poll s = s.pollStart := by
  have enabled : s.pollEnabled = true := by simp [State.pollEnabled, hphase, hstep]
  simp [exec, execPoll, whenEnabled, enabled, hstep]

/-- Issuing the poll's TRANSMIT leaves the latched time-out alone, whether it is granted or waits. -/
theorem issueTransmit_scheduler_timeoutMs {s t : State} {f : List Byte} (h : s.issueTransmit .scheduler f = .next t) :
    t.poll.timeoutMs = s.poll.timeoutMs := by
  obtain ⟨_, rfl⟩ | ⟨_, _, rfl⟩ := issueTransmit_next h
  · rw [grant_scheduler_poll]
  · rfl

/-- The poll's first step latches the response time-out of its baud rate and expected length (R175). -/
theorem pollStart_timeoutMs {s t : State} (h : s.pollStart = .next t) :
    t.poll.timeoutMs = timeoutMs s.baud (expectedLen s.poll.cfg) := by
  rw [State.pollStart, build_txCap] at h
  exact issueTransmit_scheduler_timeoutMs h

/-- The response time-out with R7's constants put in. -/
theorem timeoutMs_eq (b : Baud) (len : Nat) :
    timeoutMs b len = max 20 (min 5000 ((silentUs b + len * charTimeUs b + 1_000_000) / 1000)) := rfl

theorem expectedLen_eq (cfg : SlaveConfig) : expectedLen cfg = 5 + 2 * cfg.registerCount.toNat := rfl

/-- The margin alone is 1000 ms: the lower bound of 20 ms never binds. -/
theorem le_timeoutMs (b : Baud) (len : Nat) : 1000 ≤ timeoutMs b len := by
  rw [timeoutMs_eq]
  omega

theorem timeoutMs_le (b : Baud) (len : Nat) : timeoutMs b len ≤ 5000 := by
  rw [timeoutMs_eq]
  omega

/-- Where the upper bound binds: the margin takes 1000 of its 5000 ms. -/
theorem timeoutMs_eq_max_iff (b : Baud) (len : Nat) :
    timeoutMs b len = 5000 ↔ 4_000_000 ≤ silentUs b + len * charTimeUs b := by
  rw [timeoutMs_eq]
  omega

/-- A slower line has longer characters. -/
theorem le_charTimeUs_of_rate_le {b : Baud} {r : Nat} (h : b.rate ≤ r) : 10_000_000 / r ≤ charTimeUs b :=
  Nat.div_le_div_left h (rate_pos b)

/-- On a slow line the upper bound binds as soon as characters of `c` microseconds reach it. -/
theorem timeoutMs_eq_max_of_charTime {b : Baud} {c len : Nat} (hc : c ≤ charTimeUs b)
    (h : 4_000_000 ≤ (7 * c + 1) / 2 + len * c) : timeoutMs b len = 5000 := by
  have receive : len * c ≤ len * charTimeUs b := Nat.mul_le_mul_left len hc
  rw [timeoutMs_eq_max_iff, silentUs_eq]
  omega

theorem timeoutMs_eq_max_iff_of_rate_300 {b : Baud} (hrate : b.rate = 300) (n : Nat) :
    timeoutMs b (5 + 2 * n) = 5000 ↔ 56 ≤ n := by
  have char : charTimeUs b = 33333 := by rw [charTimeUs_eq, hrate]
  rw [timeoutMs_eq_max_iff, silentUs_eq, char]
  omega

/-- The response time-out at 9600 bit/s, where a character takes 1041 us and the silent interval 3644 us. -/
theorem timeoutMs_of_rate_9600 {b : Baud} (hrate : b.rate = 9600) (n : Nat) :
    timeoutMs b (5 + 2 * n) = min 5000 ((1_008_849 + 2082 * n) / 1000) := by
  have char : charTimeUs b = 1041 := by rw [charTimeUs_eq, hrate]
  rw [timeoutMs_eq, silentUs_eq, char]
  omega

/-- Settles O17: R175's formula and its latch; the bounds from the margin and the clamp; the rates from the character time. -/
theorem responseTimeoutFormula : Obligations.ResponseTimeoutFormula := by
  intro b cfg c n ms us
  refine ⟨rfl, le_timeoutMs b _, timeoutMs_le b _, ?latch, ?ceiling, ?rate341, ?rate51,
    fun hrate => timeoutMs_eq_max_iff_of_rate_300 hrate n, ?rate9600⟩
  case latch =>
    intro s t hphase hstep hcfg hbaud hexec
    rw [exec_poll_of_start hphase hstep] at hexec
    rw [pollStart_timeoutMs hexec, hcfg, hbaud]
  case ceiling => exact fun h => (timeoutMs_eq_max_iff b _).mpr (le_trans (by decide) h)
  case rate341 =>
    intro hrate hn
    refine timeoutMs_eq_max_of_charTime (le_charTimeUs_of_rate_le hrate) ?_
    rw [expectedLen_eq, show cfg.registerCount.toNat = 64 from hn]
    decide
  case rate51 =>
    intro hrate hn
    refine timeoutMs_eq_max_of_charTime (le_charTimeUs_of_rate_le hrate) ?_
    rw [expectedLen_eq, show cfg.registerCount.toNat = 6 from hn]
    decide
  case rate9600 =>
    intro hrate
    have hms : ms = min 5000 ((1_008_849 + 2082 * n) / 1000) := timeoutMs_of_rate_9600 hrate n
    clear_value n ms
    omega

end Sys2Proof.Machine
end

section
/-! Proofs about what every transition leaves alone: model time, the baud rate and the registry lock (00_scope.md R13, 10_state.md R39,
R40), and the output logs, which only grow (R27). -/

namespace Sys2Proof.Machine

theorem Trans.time_eq {s t : State} (h : Trans s t) : t.time = s.time := by cases h <;> simp

theorem Trans.baud_eq {s t : State} (h : Trans s t) : t.baud = s.baud := by cases h <;> simp

theorem Trans.regLock_eq {s t : State} (h : Trans s t) : t.regLock = s.regLock := by cases h <;> simp

theorem Trans.txStream_grows {s t : State} (h : Trans s t) : s.txStream <+: t.txStream := by cases h <;> simp

theorem Trans.deLog_grows {s t : State} (h : Trans s t) : s.deLog <+: t.deLog := by cases h <;> simp

/-- Settles O48: an instruction's effect is one of the transitions, and none of them moves time or writes BAUD. -/
theorem operationsTakeNoTime : Obligations.OperationsTakeNoTime :=
  fun _ _ _ h => ⟨(exec_trans h).time_eq, (exec_trans h).baud_eq⟩

/-- Settles O49: a transition appends to the logs or leaves them, the end of a wait does not touch them, and else only time passes. -/
theorem timeAndLogsOnlyGrow : Obligations.TimeAndLogsOnlyGrow := by
  intro s t h
  cases step_kind h with
  | trans inp t h => exact ⟨h.time_eq.ge, h.txStream_grows, h.deLog_grows, h.baud_eq⟩
  | busWaitBench w _ _ _ => simp
  | busWaitPoll w _ _ _ => simp
  | windowEnds r _ _ => simp
  | timePasses t' hle _ => simpa using hle
  | idles _ => simp

end Sys2Proof.Machine
end

section
/-! Proofs about the Bus Transport: every step keeps the transport coherent and the logs the windows of the transmitted frames
(10_state.md R26; 42_bus_transport.md R132, R136), and DE falls only at the release (R240). -/

namespace Sys2Proof.Machine

/-- The pending deadlines, one by one (60_exceptions.md R206). -/
theorem mem_deadlines {s : State} {d : Nat} : d ∈ s.deadlines ↔
    (s.tphase = .transmitting ∧ d = s.txDataEnd) ∨ (s.deTimer.armed = true ∧ d = s.deTimer.deadline)
      ∨ (∃ w, s.busWait = some w ∧ w.deadline = d) ∨ (∃ r, s.rxOp = some r ∧ r.deadline = d)
      ∨ (s.schedPhase = .sleeping ∧ d = s.wakeAt) := by
  simp [State.deadlines]

theorem deReleaseEnabled_iff {s : State} : s.deReleaseEnabled = true ↔ s.deTimer.armed = true ∧ s.time = s.deTimer.deadline := by
  simp [State.deReleaseEnabled]

theorem txDoneEnabled_iff {s : State} : s.txDoneEnabled = true ↔ s.tphase = .transmitting ∧ s.time = s.txDataEnd := by
  simp [State.txDoneEnabled]

/-- The two invariants of the transport, which a step keeps together. -/
structure State.BusOk (s : State) : Prop where
  transport : s.TransportOk
  windows : s.WindowsOk

/-- What the two invariants read of a state. -/
def State.bus (s : State) :=
  (s.de, s.tphase, s.txDataEnd, s.deTimer, s.busWait, s.rxOp, s.time, s.txStream, s.deLog, s.baud)

namespace State.BusOk

variable {s t : State}

theorem of_bus_eq (ok : s.BusOk) (h : t.bus = s.bus) : t.BusOk := by
  cases s
  cases t
  simp only [State.bus, Prod.mk.injEq] at h
  obtain ⟨rfl, rfl, rfl, rfl, rfl, rfl, rfl, rfl, rfl, rfl⟩ := h
  exact ⟨{ ok.transport with }, { ok.windows with }⟩

/-- A later instant that passes no deadline. -/
theorem later (ok : s.BusOk) {t' : Nat} (hle : s.time ≤ t') (hd : ∀ d ∈ s.deadlines, t' ≤ d) :
    State.BusOk { s with time := t' } where
  transport := { ok.transport with
    txEnd := fun h => ⟨hd _ (mem_deadlines.mpr (.inl ⟨h, rfl⟩)), (ok.transport.txEnd h).2⟩
    release := fun h => hd _ (mem_deadlines.mpr (.inr (.inl ⟨h, rfl⟩)))
    wait := fun w h => ⟨(ok.transport.wait w h).1, hd _ (mem_deadlines.mpr (.inr (.inr (.inl ⟨w, h, rfl⟩))))⟩
    window := fun r h => ⟨hd _ (mem_deadlines.mpr (.inr (.inr (.inr (.inl ⟨r, h, rfl⟩))))), (ok.transport.window r h).2⟩ }
  windows := { ok.windows with
    ended := fun e he => (ok.windows.ended e he).trans (by dsimp only; split <;> omega) }

/-- The last character has ended; the guard band has not. -/
theorem txDone (ok : s.BusOk) (h : s.txDoneEnabled = true) : State.BusOk { s with tphase := .guardBand } where
  transport := { ok.transport with
    armed := by simpa [(txDoneEnabled_iff.mp h).1] using ok.transport.armed
    txEnd := nofun
    wait := fun w hw => ⟨nofun, (ok.transport.wait w hw).2⟩ }
  windows := { ok.windows with }

/-- The wait for the bus ends, with a grant or without. -/
theorem waitEnds (ok : s.BusOk) : State.BusOk { s with busWait := none } where
  transport := { ok.transport with wait := nofun }
  windows := { ok.windows with }

theorem waits (ok : s.BusOk) (busy : s.tphase ≠ .idle) (f : List Byte) (c : Caller) :
    State.BusOk { s with busWait := some ⟨s.time, f, c⟩ } where
  transport := { ok.transport with
    wait := by
      rintro w ⟨⟩
      exact ⟨busy, Nat.le_add_right ..⟩ }
  windows := { ok.windows with }

/-- A read is pending that lacks bytes, whoever's it is. -/
theorem reads (ok : s.BusOk) {r : RxOp} (h : s.time ≤ r.deadline ∧ r.got.length < r.len ∧ r.len ≤ Config.RX_CAP) :
    State.BusOk { s with rxOp := some r } where
  transport := { ok.transport with
    window := by
      rintro _ ⟨⟩
      exact h }
  windows := { ok.windows with }

theorem readEnds (ok : s.BusOk) : State.BusOk { s with rxOp := none } where
  transport := { ok.transport with window := nofun }
  windows := { ok.windows with }

theorem completeReceive (ok : s.BusOk) (c : Caller) (bs : List Byte) : (s.completeReceive c bs).BusOk :=
  ok.readEnds.of_bus_eq (by simp [State.bus])

theorem deliver (ok : s.BusOk) (bs : List Byte) : (s.deliver bs).BusOk := by
  obtain ⟨_, h⟩ | ⟨r, hr, short, h⟩ | ⟨r, _, _, h⟩ := deliver_cases s bs
  · rwa [h]
  · obtain ⟨inTime, _, fits⟩ := ok.transport.window r hr
    rw [h]
    exact ok.reads ⟨inTime, Nat.lt_of_le_of_ne (List.length_take_le ..) short, fits⟩
  · rw [h]
    exact ok.completeReceive ..

/-- The release, at the timer's deadline, with nobody waiting for the bus: the log already foresaw it. -/
theorem releaseDe (ok : s.BusOk) (h : s.deReleaseEnabled = true) (noWaiter : s.busWait = none) : s.releaseDe.BusOk := by
  obtain ⟨armed, now⟩ := deReleaseEnabled_iff.mp h
  obtain ⟨log, apart, ended⟩ := ok.windows
  simp only [armed, if_true, ← now] at log ended
  exact ⟨⟨by simp [State.releaseDe], rfl, nofun, nofun, by simp [noWaiter], ok.transport.window⟩,
    by simpa using log, apart, ended⟩

/-- A grant on the idle bus opens a window after all that have ended. -/
theorem grant (ok : s.BusOk) (idle : s.tphase = .idle) (c : Caller) (f : List Byte) : (s.grant c f).BusOk := by
  have unarmed : s.deTimer.armed = false := by simpa [idle] using ok.transport.armed
  have noWaiter : s.busWait = none := by
    refine Option.eq_none_iff_forall_ne_some.mpr fun w hw => (ok.transport.wait w hw).1 idle
  obtain ⟨log, apart, ended⟩ := ok.windows
  simp only [unarmed, Bool.false_eq_true, if_false, List.append_nil] at log ended
  refine ⟨⟨by simp, by simp, fun _ => ?_, by simp, by simp [noWaiter], by simpa using ok.transport.window⟩,
    by simp [log, deWindow], ?_, fun e he => ?_⟩
  · simpa using txDataUs_lt_txTimeUs s.baud f.length
  · simpa [List.pairwise_append, apart] using ended
  · simp only [grant_txStream, List.mem_append, List.mem_singleton] at he
    simp only [grant_deTimer, grant_baud, if_true]
    rcases he with he | rfl
    · exact (ended e he).trans (Nat.le_add_right ..)
    · exact le_rfl

end State.BusOk

theorem Trans.keeps_busOk {s t : State} (h : Trans s t) (ok : s.BusOk) : t.BusOk := by
  cases h with
  | benchGrant f _ idle => exact ok.grant idle ..
  | benchWait f _ busy _ => exact ok.waits busy ..
  | benchReceive len ms _ _ pos fits => exact ok.reads ⟨Nat.le_add_right .., pos, fits⟩
  | delivers bs => exact ok.deliver bs
  | ends enabled => exact ok.txDone enabled
  | releases enabled noWaiter => exact ok.releaseDe enabled noWaiter
  | hands w enabled _ => exact (ok.waitEnds.releaseDe enabled rfl).grant rfl ..
  | pollGrant p _ _ idle _ _ => exact (ok.of_bus_eq (t := { s with poll := p }) rfl).grant idle ..
  | pollWait p _ _ busy _ _ _ => exact (ok.of_bus_eq (t := { s with poll := p }) rfl).waits busy ..
  | pollReads _ _ _ pos fits => exact (ok.of_bus_eq (t := s.setStep .waitRx) rfl).reads ⟨Nat.le_add_right .., pos, fits⟩
  | pollReadsNothing => exact (ok.of_bus_eq (t := s.setStep .waitRx) rfl).completeReceive ..
  | returns | registers | frees | starts | restarts | stops | exits | scans | passes | begins | pollNoBuffer | pollFinishes
  | sleeps => exact ok.of_bus_eq (by simp [State.bus])

/-- Settles O46: by the kinds of a step, each of which keeps the two invariants together. -/
theorem stepKeepsTransportWindows : Obligations.StepKeepsTransportWindows := by
  intro s t transport windows h
  have ok : s.BusOk := ⟨transport, windows⟩
  suffices t.BusOk from ⟨this.transport, this.windows⟩
  cases step_kind h with
  | trans inp t h => exact h.keeps_busOk (ok.of_bus_eq rfl)
  | busWaitBench => exact ok.waitEnds.of_bus_eq rfl
  | busWaitPoll => exact ok.waitEnds.of_bus_eq (by simp [State.bus])
  | windowEnds => exact ok.completeReceive ..
  | timePasses t' hle hd => exact ok.later hle hd
  | idles none =>
    exact (ok.later (Nat.le_add_right s.time (Config.idleDelay s.draws)) (by simp [none])).of_bus_eq rfl

/-- A transition lowers DE only at the timer's deadline. -/
theorem Trans.release_of_de_falls {s t : State} (h : Trans s t) (high : s.de = true) (low : t.de = false) :
    s.deReleaseEnabled = true := by
  cases h with
  | releases enabled => exact enabled
  | _ => simp [high] at low

/-- A transition that puts a frame on the wire found the bus idle or frees it at the timer's deadline. -/
theorem Trans.idle_or_release_of_txStream_ne {s t : State} (h : Trans s t) (grants : t.txStream ≠ s.txStream) :
    s.tphase = .idle ∨ s.deReleaseEnabled = true := by
  cases h with
  | benchGrant f _ idle => exact .inl idle
  | pollGrant p _ _ idle => exact .inl idle
  | hands w enabled => exact .inr enabled
  | _ => exact absurd (by simp) grants

/-- Settles O26: only a transition touches DE or the log of frames, and an armed timer means that the bus is not idle. -/
theorem deFallsOnlyAtRelease : Obligations.DeFallsOnlyAtRelease := by
  intro s t ok h
  cases step_kind h with
  | trans inp t h =>
    refine ⟨fun high low => deReleaseEnabled_iff.mp (h.release_of_de_falls high low), fun armed grants => ?_⟩
    obtain idle | enabled := h.idle_or_release_of_txStream_ne grants
    · exact absurd idle (ok.armed.mp armed)
    · exact (deReleaseEnabled_iff.mp enabled).2
  | _ => simp +contextual

end Sys2Proof.Machine
end

section
/-! What a step does to the slot table, said once (20_memory.md R64; 43_registry.md R150, R152, R158; 44_scheduler.md R184): every later
fact about slots is a case analysis over `SlotMove`. -/

namespace Sys2Proof.Machine

/-- The errors in which the poll in flight can end, each with its place (44_scheduler.md R176, R178, R180, R181). -/
inductive PollError (s : State) : ErrCode → Prop where
  | busBusy (w : BusWait) : s.busWait = some w → w.caller = .scheduler → PollError s .errBusBusy
  | noBuffer : s.schedPhase = .inPoll → s.poll.step = .granted → PollError s .errAllocation
  | tooShort : s.schedPhase = .inPoll → s.poll.step = .received → PollError s .errIoTimeout
  | rejected (e : ErrCode) : s.schedPhase = .inPoll → s.poll.step = .received → s.poll.expectedLen ≤ s.poll.rxbuf.length →
      parse s.poll.rxbuf s.poll.cfg.address s.poll.cfg.registerCount = .error e → PollError s e

/-- The slot table and its count after a transition. -/
inductive SlotMove (s t : State) : Prop where
  | keeps : t.slots = s.slots → t.slaveCount = s.slaveCount → SlotMove s t
  | registers (cfg : SlaveConfig) (i : Fin Config.MAX_SLAVES) : s.firstFree = some i →
      t.slots = (s.setSlot i (freshSlot cfg (tickMs s.time))).slots → t.slaveCount = s.slaveCount + 1 → SlotMove s t
  | frees (i : Fin Config.MAX_SLAVES) : (s.slot i).inUse = true →
      t.slots = (s.setSlot i { s.slot i with inUse := false }).slots → t.slaveCount = s.slaveCount - 1 → SlotMove s t
  | fails (e : ErrCode) : PollError s e → t.slots = (s.failPoll e).slots → t.slaveCount = s.slaveCount → SlotMove s t
  | publishes (vals : List U16) : s.schedPhase = .inPoll →
      parse s.poll.rxbuf s.poll.cfg.address s.poll.cfg.registerCount = .ok vals →
      t.slots = (s.publish s.poll.slot vals s.poll.cfg.registerCount.toNat).endPoll.slots → t.slaveCount = s.slaveCount →
      SlotMove s t

/-- The last stage of a poll fails with an error or publishes the words that PARSE accepts. -/
theorem pollFinish_cases (s : State) :
    (s.poll.rxbuf.length < s.poll.expectedLen ∧ s.pollFinish = s.failPoll .errIoTimeout)
    ∨ (∃ e, s.poll.expectedLen ≤ s.poll.rxbuf.length
        ∧ parse s.poll.rxbuf s.poll.cfg.address s.poll.cfg.registerCount = .error e ∧ s.pollFinish = s.failPoll e)
    ∨ ∃ vals, s.poll.expectedLen ≤ s.poll.rxbuf.length
        ∧ parse s.poll.rxbuf s.poll.cfg.address s.poll.cfg.registerCount = .ok vals
        ∧ s.pollFinish = (s.publish s.poll.slot vals s.poll.cfg.registerCount.toNat).endPoll := by
  unfold State.pollFinish
  split
  · exact .inl ⟨‹_›, rfl⟩
  · have enough : s.poll.expectedLen ≤ s.poll.rxbuf.length := Nat.le_of_not_lt ‹_›
    split
    · exact .inr (.inl ⟨_, enough, ‹_›, rfl⟩)
    · exact .inr (.inr ⟨_, enough, ‹_›, rfl⟩)

@[simp] theorem pollFinish_schedPhase (s : State) : s.pollFinish.schedPhase = .scanning := by
  obtain ⟨_, h⟩ | ⟨e, _, _, h⟩ | ⟨vals, _, _, h⟩ := pollFinish_cases s <;> rw [h] <;> rfl

/-- What a failed poll leaves in the slots depends on the slots, the lock and the latch's slot and tick only. -/
theorem failPoll_slots_congr {s s' : State} (e : ErrCode) (hslots : s'.slots = s.slots) (hlock : s'.regLock = s.regLock)
    (hslot : s'.poll.slot = s.poll.slot) (hnow : s'.poll.now = s.poll.now) : (s'.failPoll e).slots = (s.failPoll e).slots :=
  slots_ext fun k => by simp only [slot_failPoll, slot_congr hslots, hlock, hslot, hnow]

theorem SlotMove.of_inputs {s t : State} {inp : List Input} (h : SlotMove { s with inputs := inp } t) : SlotMove s t := by
  cases h with
  | keeps hslots hcount => exact .keeps hslots hcount
  | registers cfg i hfree hslots hcount => exact .registers cfg i hfree hslots hcount
  | frees i hused hslots hcount => exact .frees i hused hslots hcount
  | fails e herr hslots hcount =>
    have herr' : PollError s e := by
      cases herr with
      | busBusy w hw hc => exact .busBusy w hw hc
      | noBuffer hp hs => exact .noBuffer hp hs
      | tooShort hp hs => exact .tooShort hp hs
      | rejected e hp hs hl he => exact .rejected e hp hs hl he
    exact .fails e herr' (hslots.trans (failPoll_slots_congr e rfl rfl rfl rfl)) hcount
  | publishes vals hphase hparse hslots hcount =>
    refine .publishes vals hphase hparse (hslots.trans (slots_ext fun k => ?_)) hcount
    simp only [slot_endPoll, slot_publish, publish_poll]
    rfl

theorem Trans.slotMove {s t : State} (h : Trans s t) : SlotMove s t := by
  cases h with
  | registers cfg i free _ => exact .registers cfg i free rfl rfl
  | frees i used _ => exact .frees i used rfl rfl
  | pollNoBuffer hp hs _ => exact .fails _ (.noBuffer hp hs) (failPoll_slots_congr _ rfl rfl rfl rfl) (by simp)
  | pollFinishes hp hs =>
    obtain ⟨_, h⟩ | ⟨e, enough, hparse, h⟩ | ⟨vals, enough, hparse, h⟩ := pollFinish_cases s
    · exact .fails _ (.tooShort hp hs) (by rw [h]) (by simp)
    · exact .fails e (.rejected e hp hs enough hparse) (by rw [h]) (by simp)
    · exact .publishes vals hp hparse (by rw [h]) (by simp)
  | _ => exact .keeps (by simp) (by simp)

theorem step_slotMove {s t : State} (h : step s = .next t) : SlotMove s t := by
  cases step_kind h with
  | trans inp t h => exact h.slotMove.of_inputs
  | busWaitPoll w hw hc _ => exact .fails _ (.busBusy w hw hc) (failPoll_slots_congr _ rfl rfl rfl rfl) (by simp)
  | _ => exact .keeps (by simp) (by simp)

end Sys2Proof.Machine
end

section
/-! Proofs about the Poll Scheduler: every transition keeps it coherent (10_state.md R35, R36, R37). -/

namespace Sys2Proof.Machine

/-- What the scheduler's invariant reads of a state. -/
def State.sched (s : State) :=
  (s.taskAlive, s.schedPhase, s.time, s.wakeAt, s.slots, s.poll, s.busWait, s.rxOp, s.baud)

namespace State.SchedulerOk

variable {s t : State}

theorem of_sched_eq (ok : s.SchedulerOk) (h : t.sched = s.sched) : t.SchedulerOk := by
  cases s
  cases t
  simp only [State.sched, Prod.mk.injEq] at h
  obtain ⟨rfl, rfl, rfl, rfl, rfl, rfl, rfl, rfl, rfl⟩ := h
  exact { ok with }

theorem stopped (ok : s.SchedulerOk) (h : s.taskAlive = false) : s.schedPhase = .stopped := by
  simpa [h] using ok.alive

/-- Outside the wait for the bus only a test bench waits. -/
theorem waiter_is_bench (ok : s.SchedulerOk) (h : ¬(s.schedPhase = .inPoll ∧ s.poll.step = .waitBus)) {w : BusWait}
    (hw : s.busWait = some w) : w.caller = .bench := by
  cases hc : w.caller with
  | bench => rfl
  | scheduler => exact absurd (ok.waiting.mp ⟨w, hw, hc⟩) h

/-- Outside the wait for the response only a test bench reads. -/
theorem reader_is_bench (ok : s.SchedulerOk) (h : ¬(s.schedPhase = .inPoll ∧ s.poll.step = .waitRx)) {r : RxOp}
    (hr : s.rxOp = some r) : r.caller = .bench := by
  cases hc : r.caller with
  | bench => rfl
  | scheduler => exact absurd (ok.reading.mp ⟨r, hr, hc⟩) h

/-- With no poll in flight the invariant is about the task and its wake only, and no scheduler's call is pending. -/
theorem of_not_inPoll (hphase : t.schedPhase ≠ .inPoll) (alive : t.taskAlive = true ↔ t.schedPhase ≠ .stopped)
    (wake : t.schedPhase = .sleeping → t.time ≤ t.wakeAt) (noWait : ∀ w, t.busWait = some w → w.caller = .bench)
    (noRead : ∀ r, t.rxOp = some r → r.caller = .bench) : t.SchedulerOk where
  alive := alive
  wake := wake
  inFlight := fun h => absurd h hphase
  waiting := ⟨fun ⟨w, hw, hc⟩ => by simp [noWait w hw] at hc, fun h => absurd h.1 hphase⟩
  reading := ⟨fun ⟨r, hr, hc⟩ => by simp [noRead r hr] at hc, fun h => absurd h.1 hphase⟩
  latched := fun h => absurd h hphase

/-- A slot that no poll is in flight of may be written. -/
theorem setSlot (ok : s.SchedulerOk) {i : Fin Config.MAX_SLAVES} (x : SlaveState) (h : s.pollsSlot i = false) :
    (s.setSlot i x).SchedulerOk :=
  { ok with
    inFlight := fun hp => by
      have hne : s.poll.slot ≠ i := by
        rintro rfl
        simp [State.pollsSlot, show s.schedPhase = .inPoll from hp] at h
      have := ok.inFlight hp
      rwa [setSlot_poll, slot_setSlot_ne s x hne] }

/-- A free slot is never the one polled. -/
theorem pollsSlot_of_free (ok : s.SchedulerOk) {i : Fin Config.MAX_SLAVES} (h : (s.slot i).inUse = false) :
    s.pollsSlot i = false := by
  rw [State.pollsSlot, Bool.and_eq_false_imp]
  intro hp
  have hused := (ok.inFlight (by simpa using hp)).1
  simp only [beq_eq_false_iff_ne]
  rintro rfl
  simp [h] at hused

/-- The wait for the bus ends with a grant. -/
theorem waiterGranted (ok : s.SchedulerOk) {w : BusWait} (hw : s.busWait = some w) :
    (State.grant { s with busWait := none } w.caller w.frame).SchedulerOk := by
  obtain ⟨issuedAt, frame, _ | _⟩ := w
  case bench =>
    exact { ok with waiting := by simpa [hw] using ok.waiting }
  case scheduler =>
    obtain ⟨hp, hs⟩ := ok.waiting.mp ⟨_, hw, rfl⟩
    exact { ok with
      waiting := by simp
      reading := by simpa [hs] using ok.reading
      latched := fun _ _ => ok.latched hp (by simp [hs]) }

/-- A pending read returns. -/
theorem readReturns (ok : s.SchedulerOk) {r : RxOp} (hr : s.rxOp = some r) (bs : List Byte) :
    (s.completeReceive r.caller bs).SchedulerOk := by
  obtain ⟨issuedAt, len, timeoutMs, _ | _, got⟩ := r
  case bench =>
    exact { ok with reading := by simpa [hr] using ok.reading }
  case scheduler =>
    obtain ⟨hp, hs⟩ := ok.reading.mp ⟨_, hr, rfl⟩
    exact { ok with
      waiting := by simpa [hs] using ok.waiting
      reading := by simp
      latched := fun _ _ => ok.latched hp (by simp [hs]) }

theorem deliver (ok : s.SchedulerOk) (bs : List Byte) : (s.deliver bs).SchedulerOk := by
  obtain ⟨_, h⟩ | ⟨r, hr, _, h⟩ | ⟨r, hr, _, h⟩ := deliver_cases s bs <;> rw [h]
  · exact ok
  · exact { ok with reading := by simpa [hr] using ok.reading }
  · exact ok.readReturns hr _

/-- The end of a transaction that has no call pending: a scan again, whatever becomes of the slots. -/
theorem pollEnds (ok : s.SchedulerOk) (hp : s.schedPhase = .inPoll) (noWait : ∀ w, t.busWait = some w → w.caller = .bench)
    (noRead : ∀ r, t.rxOp = some r → r.caller = .bench) (hphase : t.schedPhase = .scanning) (halive : t.taskAlive = s.taskAlive) :
    t.SchedulerOk :=
  of_not_inPoll (by simp [hphase]) (by simpa [hp, hphase, halive] using ok.alive) (by simp [hphase]) noWait noRead

end State.SchedulerOk

theorem Trans.keeps_schedulerOk {s t : State} (h : Trans s t) (ok : s.SchedulerOk) : t.SchedulerOk := by
  cases h with
  | benchWait f notAlive => exact { ok with waiting := by simp [ok.stopped notAlive] }
  | benchReceive len ms notAlive => exact { ok with reading := by simp [ok.stopped notAlive] }
  | registers cfg i free _ =>
    exact (ok.setSlot _ (ok.pollsSlot_of_free (firstFree_iff.mp free).1)).of_sched_eq rfl
  | frees i _ notPolled => exact (ok.setSlot _ notPolled).of_sched_eq rfl
  | starts notAlive =>
    have stopped := ok.stopped notAlive
    exact .of_not_inPoll nofun (by simp) (fun _ => le_rfl) (fun w => ok.waiter_is_bench (by simp [stopped]))
      (fun r => ok.reader_is_bench (by simp [stopped]))
  | delivers bs => exact ok.deliver bs
  | hands w _ hw => exact (ok.of_sched_eq (t := s.releaseDe) rfl).waiterGranted hw
  | exits enabled =>
    have asleep : s.schedPhase = .sleeping := by simpa using (Bool.and_eq_true_iff.mp enabled).1
    exact .of_not_inPoll nofun (by simp) nofun (fun w => ok.waiter_is_bench (by simp [asleep]))
      (fun r => ok.reader_is_bench (by simp [asleep]))
  | scans enabled =>
    have asleep : s.schedPhase = .sleeping := by simpa using (Bool.and_eq_true_iff.mp enabled).1
    exact .of_not_inPoll nofun (by simpa [asleep] using ok.alive) nofun (fun w => ok.waiter_is_bench (by simp [asleep]))
      (fun r => ok.reader_is_bench (by simp [asleep]))
  | passes i hp => exact { ok with }
  | begins i hp _ used =>
    exact { ok with
      alive := by simpa [hp] using ok.alive
      wake := nofun
      inFlight := fun _ => ⟨used, rfl⟩
      waiting := by simpa [hp] using ok.waiting
      reading := by simpa [hp] using ok.reading
      latched := fun _ h => absurd rfl h }
  | pollGrant p hp hs _ hb hlatch =>
    rw [hlatch] at hb ⊢
    exact { ok with
      waiting := by simpa [hs] using ok.waiting
      reading := by simpa [hs] using ok.reading
      latched := fun _ _ => ⟨rfl, rfl, hb⟩ }
  | pollWait p hp hs _ _ hb hlatch =>
    rw [hlatch] at hb ⊢
    exact { ok with
      waiting := by simp [hp]
      reading := by simpa [hs] using ok.reading
      latched := fun _ _ => ⟨rfl, rfl, hb⟩ }
  | pollNoBuffer hp hs =>
    exact ok.pollEnds hp (fun w hw => ok.waiter_is_bench (by simp [hs]) (by simpa using hw))
      (fun r hr => ok.reader_is_bench (by simp [hs]) (by simpa using hr)) (by simp) (by simp)
  | pollReads hp hs =>
    exact { ok with
      waiting := by simpa [hs] using ok.waiting
      reading := by simp [hp]
      latched := fun _ _ => ok.latched hp (by simp [hs]) }
  | pollReadsNothing hp hs =>
    exact { ok with
      waiting := by simpa [hs] using ok.waiting
      reading := by simp
      latched := fun _ _ => ok.latched hp (by simp [hs]) }
  | pollFinishes hp hs =>
    exact ok.pollEnds hp (fun w hw => ok.waiter_is_bench (by simp [hs]) (by simpa using hw))
      (fun r hr => ok.reader_is_bench (by simp [hs]) (by simpa using hr)) (by simp) (by simp)
  | sleeps enabled =>
    have scanning : s.schedPhase = .scanning := by simpa using (Bool.and_eq_true_iff.mp enabled).1
    exact .of_not_inPoll nofun (by simpa [scanning] using ok.alive) (fun _ => Nat.le_add_right ..)
      (fun w => ok.waiter_is_bench (by simp [scanning])) (fun r => ok.reader_is_bench (by simp [scanning]))
  | returns | benchGrant | restarts | stops | ends | releases => exact ok.of_sched_eq (by simp [State.sched])

end Sys2Proof.Machine
end

section
/-! Proofs about the Slave Registry under a step: the registry stays coherent (10_state.md R31 to R34), a used slot changes only by its own
poll (20_memory.md R64), and its snapshot whole or in its code alone (R58, R65). -/

namespace Sys2Proof.Machine

/-- One slot satisfies R31 and R32: its snapshot names the window and the capacity of its configuration. -/
structure SlaveState.Coherent (x : SlaveState) : Prop where
  mirror : x.snap.address = x.cfg.address ∧ x.snap.registerStart = x.cfg.registerStart ∧ x.snap.registerCount = x.cfg.registerCount
  capacity : x.snap.valuesLen = min x.cfg.registerCount.toNat 64

theorem freshSlot_coherent (cfg : SlaveConfig) (now : U32) : (freshSlot cfg now).Coherent := ⟨⟨rfl, rfl, rfl⟩, rfl⟩

namespace State.RegistryOk

variable {s t : State}

theorem slot_coherent (ok : s.RegistryOk) {k : Fin Config.MAX_SLAVES} (used : (s.slot k).inUse = true) : (s.slot k).Coherent :=
  ⟨ok.mirror k used, ok.capacity k used⟩

/-- One slot is written, the others stay. -/
theorem of_write (ok : s.RegistryOk) (i : Fin Config.MAX_SLAVES) (x : SlaveState) (hslots : t.slots = (s.setSlot i x).slots)
    (hlock : t.regLock = s.regLock) (hx : x.inUse = true → x.Coherent)
    (hcount : t.slaveCount = (List.finRange Config.MAX_SLAVES).countP fun j => ((s.setSlot i x).slot j).inUse) :
    t.RegistryOk := by
  have coherent : ∀ k, (t.slot k).inUse = true → (t.slot k).Coherent := by
    intro k hk
    rw [slot_congr hslots, slot_setSlot] at hk ⊢
    split at hk
    · rw [if_pos ‹_›]; exact hx hk
    · rw [if_neg ‹_›]; exact ok.slot_coherent hk
  exact ⟨by simpa only [slot_congr hslots] using hcount, fun k hk => (coherent k hk).mirror, fun k hk => (coherent k hk).capacity,
    hlock.trans ok.lock⟩

theorem of_registers (ok : s.RegistryOk) {i : Fin Config.MAX_SLAVES} (free : (s.slot i).inUse = false) (cfg : SlaveConfig) (now : U32)
    (hslots : t.slots = (s.setSlot i (freshSlot cfg now)).slots) (hlock : t.regLock = s.regLock)
    (hcount : t.slaveCount = s.slaveCount + 1) : t.RegistryOk := by
  refine ok.of_write i _ hslots hlock (fun _ => freshSlot_coherent cfg now) ?_
  rw [hcount, ok.count]
  refine (countP_finRange_update i _ _ (fun j hj => ?_) free ?_).symm
  · rw [slot_setSlot_ne _ _ hj]
  · rw [slot_setSlot_self]; rfl

theorem of_frees (ok : s.RegistryOk) {i : Fin Config.MAX_SLAVES} (used : (s.slot i).inUse = true)
    (hslots : t.slots = (s.setSlot i { s.slot i with inUse := false }).slots) (hlock : t.regLock = s.regLock)
    (hcount : t.slaveCount = s.slaveCount - 1) : t.RegistryOk := by
  refine ok.of_write i _ hslots hlock nofun ?_
  have : (List.finRange Config.MAX_SLAVES).countP (fun j => (s.slot j).inUse) = _ + 1 :=
    countP_finRange_update i (fun j => ((s.setSlot i { s.slot i with inUse := false }).slot j).inUse) _
      (fun j hj => by rw [slot_setSlot_ne _ _ hj]) (by rw [slot_setSlot_self]) used
  rw [hcount, ok.count, this]
  rfl

/-- A poll writes its slot, which stays in use, and keeps it coherent. -/
theorem of_polled (ok : s.RegistryOk) {i : Fin Config.MAX_SLAVES} {x : SlaveState} (hx : x.inUse = (s.slot i).inUse)
    (coherent : (s.slot i).inUse = true → x.Coherent) (hslots : t.slots = (s.setSlot i x).slots) (hlock : t.regLock = s.regLock)
    (hcount : t.slaveCount = s.slaveCount) : t.RegistryOk := by
  refine ok.of_write i x hslots hlock (fun h => coherent (hx ▸ h)) ?_
  rw [hcount, ok.count]
  congr 1
  funext j
  rw [slot_setSlot]
  split
  · rw [hx, ‹j = i›]
  · rfl

end State.RegistryOk

theorem StepKind.regLock_eq {s t : State} (h : StepKind s t) : t.regLock = s.regLock := by
  cases h with
  | trans inp t h => exact h.regLock_eq
  | _ => simp

/-- A failed poll's write of its slot. -/
theorem failPoll_slots {s : State} (e : ErrCode) (free : s.regLock = .free) : (s.failPoll e).slots = (s.setSlot s.poll.slot
    { s.slot s.poll.slot with
      lastPollTick := s.poll.now, snap := { (s.slot s.poll.slot).snap with lastError := e } }).slots :=
  slots_ext fun k => by rw [slot_failPoll, slot_setSlot, if_pos free]

/-- A successful poll's write of its slot. -/
theorem publish_slots {s : State} (vals : List U16) (n : Nat) (free : s.regLock = .free) :
    ((s.publish s.poll.slot vals n).endPoll).slots = (s.setSlot s.poll.slot
    { s.slot s.poll.slot with
      lastPollTick := s.poll.now, snap := (s.slot s.poll.slot).snap.publish vals n (tickMs s.time) }).slots :=
  slots_ext fun k => by by_cases hk : k = s.poll.slot <;> simp [slot_endPoll, slot_setSlot, slot_publish, hk, free]

theorem setSlot_slot (s : State) (i : Fin Config.MAX_SLAVES) : (s.setSlot i (s.slot i)).slots = s.slots := by
  simp [State.slot]

theorem SlotMove.keeps_registryOk {s t : State} (h : SlotMove s t) (hlock : t.regLock = s.regLock) (sched : s.SchedulerOk)
    (ok : s.RegistryOk) : t.RegistryOk := by
  cases h with
  | keeps hslots hcount =>
    exact ok.of_polled rfl ok.slot_coherent (hslots.trans (setSlot_slot s 0).symm) hlock hcount
  | registers cfg i free hslots hcount => exact ok.of_registers (firstFree_iff.mp free).1 cfg _ hslots hlock hcount
  | frees i used hslots hcount => exact ok.of_frees used hslots hlock hcount
  | fails e _ hslots hcount =>
    refine ok.of_polled (by rfl) (fun used => ?_) (hslots.trans (failPoll_slots e ok.lock)) hlock hcount
    obtain ⟨mirror, capacity⟩ := ok.slot_coherent used
    exact ⟨mirror, capacity⟩
  | publishes vals inPoll hparse hslots hcount =>
    refine ok.of_polled (by rfl) (fun used => ?_) (hslots.trans (publish_slots vals _ ok.lock)) hlock hcount
    have hcfg : (s.slot s.poll.slot).cfg = s.poll.cfg := (sched.inFlight inPoll).2
    have fits : s.poll.cfg.registerCount.toNat ≤ 64 := (parse_ok_length hparse).2
    exact ⟨(ok.slot_coherent used).mirror, by simp [Snapshot.publish, hcfg, fits]⟩

/-- Settles O47: the scheduler by the kinds of a step, the registry by what a step does to the slot table. -/
theorem stepKeepsSchedulerAndRegistry : Obligations.StepKeepsSchedulerAndRegistry := by
  intro s t sched registry h
  refine ⟨?_, (step_slotMove h).keeps_registryOk (step_kind h).regLock_eq sched registry⟩
  cases step_kind h with
  | trans inp t h => exact h.keeps_schedulerOk (sched.of_sched_eq rfl)
  | busWaitBench w hw hc => exact { sched with waiting := by simpa [hw, hc] using sched.waiting }
  | busWaitPoll w hw hc =>
    obtain ⟨hp, hs⟩ := sched.waiting.mp ⟨w, hw, hc⟩
    exact sched.pollEnds hp (by simp) (fun r hr => sched.reader_is_bench (by simp [hs]) (by simpa using hr)) (by simp) (by simp)
  | windowEnds r hr => exact sched.readReturns hr _
  | timePasses t' _ hd =>
    exact { sched with wake := fun hp => hd _ (mem_deadlines.mpr (.inr (.inr (.inr (.inr ⟨hp, rfl⟩))))) }
  | idles none =>
    refine { sched with wake := fun hp => ?_ }
    have : s.wakeAt ∈ s.deadlines := mem_deadlines.mpr (.inr (.inr (.inr (.inr ⟨hp, rfl⟩))))
    simp [none] at this

end Sys2Proof.Machine
end

section
/-! Proofs about the encodings (30_encoding.md R75, R76, R79, R83): the two frame formats and the command codes, in both directions. -/

namespace Sys2Proof.Machine

theorem decodeRequest_req8Bytes (a : Byte) (start n crc : U16) : decodeRequest (req8Bytes a start n crc) = .ok (.req8 a start n crc) := by
  simp [decodeRequest, req8Bytes, req8Header, crcBytes]

/-- A response whose byte count fits its byte is read back: the count says where the data ends and the CRC begins. -/
theorem decodeResponse_rspvBytes (a : Byte) {data : List Byte} (crc : U16) (h : data.length ≤ 254) :
    decodeResponse (rspvBytes a data crc) = .ok (.rspv a data crc) := by
  have count : (BitVec.ofNat 8 data.length).toNat = data.length := Nat.mod_eq_of_lt (by omega)
  simp only [decodeResponse, rspvBytes, rspvHeader, crcBytes, List.cons_append, List.nil_append, if_true, count, List.drop_left',
    List.take_left', le16_split]

/-- Settles O56: a command's code and ports by evaluation; the frames by their formats. -/
theorem decodeInvertsEncode : Obligations.DecodeInvertsEncode := by
  intro i w wf h
  cases i with
  | req8 a start n crc =>
    cases h
    exact decodeRequest_req8Bytes a start n crc
  | rspv a data crc =>
    cases h
    have fits : data.length ≤ 254 := by simp [Instr.wf, rspvOk] at wf; exact wf.1.2
    exact decodeResponse_rspvBytes a crc fits
  | txDone | deRelease | wake | scanStep | poll | sleep | synth => cases h
  | _ => cases h; rfl

theorem eq_req8_of_decodeRequest {bytes : List Byte} {i : Instr} (h : decodeRequest bytes = .ok i) :
    ∃ a start n crc, i = .req8 a start n crc ∧ bytes = req8Bytes a start n crc := by
  unfold decodeRequest at h
  split at h
  · split at h
    · cases h
      exact ⟨_, _, _, _, rfl, by simp_all [req8Bytes, req8Header, crcBytes]⟩
    · cases h
  · cases h

theorem eq_rspv_of_decodeResponse {bytes : List Byte} {i : Instr} (h : decodeResponse bytes = .ok i) :
    ∃ a data crc, i = .rspv a data crc ∧ bytes = rspvBytes a data crc := by
  unfold decodeResponse at h
  split at h
  · rename_i a f n rest
    split at h
    · rename_i hf
      split at h
      · rename_i lo hi hdrop
        cases h
        have hlen : (rest.take n.toNat).length = n.toNat := by
          have := congrArg List.length hdrop
          simp at this
          simp
          omega
        refine ⟨_, _, _, rfl, ?_⟩
        rw [rspvBytes, rspvHeader, crcBytes, hlen, loByte_le16, hiByte_le16, ← hdrop, List.append_assoc, List.take_append_drop, hf]
        simp
      · cases h
    · cases h
  · cases h

/-- A command's code says which of the eleven it is; encoded again it keeps the code, with only the ports that its row names. -/
theorem encode_of_decodeCommand {code : BitVec 4} {p : OperandPorts} {i : Instr} (h : decodeCommand code p = .ok i) :
    ∃ q, encode i = some (.command code q) ∧ decodeCommand code q = .ok i := by
  have code_eq : code = BitVec.ofNat 4 code.toNat := by simp
  unfold decodeCommand at h
  split at h
  case h_12 => cases h
  all_goals
    rename_i hcode
    rw [hcode] at code_eq
    cases h
    subst code_eq
    exact ⟨_, rfl, rfl⟩

/-- Settles O57: what a frame or a command decodes to, encoded again. -/
theorem encodeInvertsDecode : Obligations.EncodeInvertsDecode := by
  refine ⟨fun bs i h => ?_, fun bs i h => ?_, fun code p i h => encode_of_decodeCommand h⟩
  · obtain ⟨a, start, n, crc, rfl, rfl⟩ := eq_req8_of_decodeRequest h
    rfl
  · obtain ⟨a, data, crc, rfl, rfl⟩ := eq_rspv_of_decodeResponse h
    rfl

end Sys2Proof.Machine
end

section
/-! Proofs about the CRC Engine: CRC16 as an operation (40_crc.md R102), and its algebra (R104). -/

namespace Sys2Proof.Machine

theorem exec_crc16 (bytes : List Byte) (s : State) : exec (.crc16 bytes) s = .next { s with result := some (.crc (crc16 bytes)) } := rfl

/-- Settles O3: the meaning of CRC16, and R102's example by evaluation. -/
theorem crc16ReturnsRunningCrc : Obligations.Crc16ReturnsRunningCrc := ⟨exec_crc16, by decide +kernel⟩

theorem crc16_append (x y : List Byte) : crc16 (x ++ y) = y.foldl crcByte (crc16 x) := List.foldl_append ..

/-- Settles O4: a fold over an append; an injection of a finite type is a bijection. -/
theorem crcComposesAndIsBijective : Obligations.CrcComposesAndIsBijective :=
  ⟨crc16_append, rfl, Finite.injective_iff_bijective.mp crcBit_injective,
    fun b => Finite.injective_iff_bijective.mp (crcByte_injective b)⟩

/-- While the low bits are clear `crc_bit` only shifts. -/
theorem iterate_crcBit_mul_two_pow (k n : Nat) (h : n * 2 ^ k < 2 ^ 16) :
    crcBit^[k] (BitVec.ofNat 16 (n * 2 ^ k)) = BitVec.ofNat 16 n := by
  induction k with
  | zero => simp
  | succ k ih =>
    rw [pow_succ, ← Nat.mul_assoc] at h ⊢
    have clear : (BitVec.ofNat 16 (n * 2 ^ k * 2)).getLsbD 0 = false := by
      rw [BitVec.getLsbD_ofNat, Nat.testBit_zero]
      simp
    have shift : BitVec.ofNat 16 (n * 2 ^ k * 2) >>> 1 = BitVec.ofNat 16 (n * 2 ^ k) := by
      apply BitVec.eq_of_toNat_eq
      rw [BitVec.toNat_ushiftRight, BitVec.toNat_ofNat, BitVec.toNat_ofNat, Nat.shiftRight_eq_div_pow]
      omega
    rw [Function.iterate_succ_apply, crcBit_of_low_clear clear, shift, ih (by omega)]

/-- The low byte of a word cancels against itself, and its high byte is left above eight clear bits. -/
theorem le16_xor_lo (lo hi : Byte) : le16 lo hi ^^^ lo.setWidth 16 = BitVec.ofNat 16 (hi.toNat * 2 ^ 8) := by
  apply BitVec.eq_of_getLsbD_eq
  intro i hi'
  rw [BitVec.getLsbD_xor, le16, BitVec.getLsbD_append, BitVec.getLsbD_setWidth, BitVec.getLsbD_ofNat, Nat.testBit_mul_two_pow]
  by_cases h : i < 8
  · simp [h, hi']
  · simp [h, hi', Nat.le_of_not_lt h, BitVec.testBit_toNat]

/-- The low CRC byte moves the high one down. -/
theorem crcByte_le16_lo (lo hi : Byte) : crcByte (le16 lo hi) lo = hi.setWidth 16 := by
  have := hi.isLt
  rw [crcByte_eq_iterate, le16_xor_lo, iterate_crcBit_mul_two_pow 8 _ (by omega)]
  exact BitVec.ofNat_toNat ..

/-- The high CRC byte then leaves nothing. -/
theorem crcByte_setWidth_self (b : Byte) : crcByte (b.setWidth 16) b = 0 := by
  rw [crcByte_eq_iterate, BitVec.xor_self]
  rfl

/-- Settles O5: the CRC's own two bytes take the running value to zero, and the run over two bytes is injective. -/
theorem crcResidueIsZero : Obligations.CrcResidueIsZero := by
  intro x lo hi
  have zero : [lo, hi].foldl crcByte (le16 lo hi) = 0 := by
    simp only [List.foldl_cons, List.foldl_nil, crcByte_le16_lo, crcByte_setWidth_self]
  rw [crc16_append, ← zero]
  exact (foldl_crcByte_injective [lo, hi]).eq_iff

/-- Settles O6: the running values differ after the byte, and the run over the rest is injective. -/
theorem crcSeesEverySingleByte : Obligations.CrcSeesEverySingleByte := fun x y _ _ h => crc16_append_cons_ne x y h

end Sys2Proof.Machine
end

section
/-! Proofs about the Frame Codec's operations BUILD, PARSE and SYNTH (41_frame_codec.md R110 to R114, R117), and about all operations that
write the result port only (20_memory.md R60, R64). -/

namespace Sys2Proof.Machine

theorem exec_build (a : Byte) (st n : U16) (cap : Nat) (s : State) :
    exec (.build a st n cap) s = .next (s.retExcept .frame (build a st n cap)) := rfl

theorem exec_parse (f : List Byte) (a : Byte) (n : U16) (s : State) :
    exec (.parse f a n) s = .next (s.retExcept .values (parse f a n)) := rfl

/-- Settles O7: the capacity check, and the frame by its format. -/
theorem buildReturnsRequestFrame : Obligations.BuildReturnsRequestFrame := by
  intro a st n cap s
  rw [exec_build]
  by_cases h : cap < 8
  · rw [show build a st n cap = .error .errBuild from if_pos h]
    simp only [if_pos h]
    rfl
  · rw [show build a st n cap = .ok _ from if_neg h]
    simp only [if_neg h]
    rfl

theorem build_ok {a : Byte} {st n : U16} {cap : Nat} {f : List Byte} (h : build a st n cap = .ok f) :
    f = req8Header a st n ++ crcBytes (crc16 (req8Header a st n)) := by
  unfold build at h
  split at h <;> cases h
  rfl

/-- Settles O8: the frame's parts, and that the two byte orders join what they split. -/
theorem requestCarriesItsCrc : Obligations.RequestCarriesItsCrc := by
  intro a st n cap f h
  rw [build_ok h]
  simp [req8Header, crcBytes]

theorem ne_le16_iff (c : U16) (lo hi : Byte) : c ≠ le16 lo hi ↔ c.toNat ≠ lo.toNat + 256 * hi.toNat := by
  rw [Ne, ← BitVec.toNat_inj, le16_toNat]

theorem be16_eq_ofNat (hi lo : Byte) : be16 hi lo = BitVec.ofNat 16 (256 * hi.toNat + lo.toNat) := by
  rw [← be16_toNat, BitVec.ofNat_toNat, BitVec.setWidth_eq]

/-- Settles O9: the checks of PARSE in their order, its CRC check and its words read as numbers. -/
theorem parseReportsFirstFailingCheck : Obligations.ParseReportsFirstFailingCheck := by
  intro f a n s bc
  simp only [exec_parse, parse, ne_le16_iff, decodeWords, be16_eq_ofNat, byteAt, Config.RSP_MIN, Config.RSP_OVERHEAD, Config.FUNC_READ,
    Config.SNAP_CAP]
  split_ifs <;> rfl

theorem byteAt_append {f : List Byte} {i : Nat} (g : List Byte) (h : i < f.length) : byteAt (f ++ g) i = byteAt f i :=
  List.getD_append f g 0 i h

/-- Every check of an accepted frame reads bytes of the frame itself. -/
theorem parse_append {f : List Byte} {a : Byte} {n : U16} {vs : List U16} (h : parse f a n = .ok vs) (g : List Byte) :
    parse (f ++ g) a n = .ok vs := by
  obtain ⟨hmin, h0, h1, h2, hfit, hcrc, hn, hvs⟩ := (parse_ok_iff f a n vs).mp h
  have header : ∀ i < 3, byteAt (f ++ g) i = byteAt f i := fun i hi => byteAt_append g (by omega)
  refine (parse_ok_iff ..).mpr ⟨by simp; omega, by rwa [header 0 (by decide)], by rwa [header 1 (by decide)],
    by rwa [header 2 (by decide)], by simp; omega, ?_, hn, ?_⟩
  · rwa [List.take_append_of_le_length (by omega), byteAt_append g (by omega), byteAt_append g (by omega)]
  · rw [hvs]
    refine List.map_congr_left fun k hk => ?_
    have := List.mem_range.mp hk
    rw [byteAt_append g (by omega), byteAt_append g (by omega)]

/-- Twice a count of 128 or more is beyond a byte. -/
theorem parse_of_count_ge_128 (f : List Byte) (a : Byte) {n : U16} (hn : 128 ≤ n.toNat) : parse f a n = .error .errShortFrame
    ∨ parse f a n = .error .errAddressOrFunctionMismatch ∨ parse f a n = .error .errByteCountMismatch := by
  by_cases short : f.length < 5
  · exact .inl (if_pos short)
  have hmin : 5 ≤ f.length := Nat.le_of_not_lt short
  by_cases header : byteAt f 0 = a ∧ byteAt f 1 = 0x03
  · have byteCount := (byteAt f 2).isLt
    exact .inr (.inr (parse_of_byteCount_mismatch hmin header.1 header.2 (by omega)))
  · exact .inr (.inl (parse_of_header_mismatch hmin (not_and_or.mp header)))

/-- Settles O12: bytes behind an accepted frame, and counts that no byte count reaches. -/
theorem parseIgnoresTrailingBytes : Obligations.ParseIgnoresTrailingBytes :=
  ⟨fun _ g _ _ _ h => parse_append h g, fun f a _ hn => parse_of_count_ge_128 f a hn⟩

/-- Settles O14: SYNTH's precondition, and the frame by its format. -/
theorem synthReturnsResponseFrame : Obligations.SynthReturnsResponseFrame :=
  ⟨fun _ _ _ _ hlen hmax => if_pos ⟨hlen, hmax⟩, fun _ _ _ _ h => if_neg h⟩

theorem retExcept_frame {α : Type} (s : State) (ok : α → OpResult) (e : Except ErrCode α) :
    s.retExcept ok e = { s with result := (s.retExcept ok e).result } := by
  cases e <;> rfl

/-- Settles O15: each of the six answers by `State.ret` alone. -/
theorem pureAndReadersChangeOnlyResult : Obligations.PureAndReadersChangeOnlyResult := by
  intro i s t hi h
  cases i with
  | crc16 | count => cases h; rfl
  | build | parse => cases h; exact retExcept_frame ..
  | synth a n vs =>
    simp only [exec, execSynth] at h
    split at h <;> cases h
    rfl
  | snapshot k =>
    simp only [exec, execSnapshot] at h
    split at h
    · cases h; rfl
    · split at h <;> (cases h; rfl)
  | _ => exact hi.elim

end Sys2Proof.Machine
end

section
/-! What each step runs, by the kind of its next move (60_exceptions.md R207), and the two guards of the instructions (42_bus_transport.md
R125; 60_exceptions.md R205). -/

namespace Sys2Proof.Machine

theorem step_of_timer {s : State} {i : Instr} (h : s.nextMove = .timer i) : step s = exec i s := by
  rw [step, h]

theorem step_of_busWaitTimeout {s : State} (h : s.nextMove = .busWaitTimeout) : step s = s.busWaitTimeout := by
  rw [step, h]

theorem step_of_rxTimeout {s : State} (h : s.nextMove = .rxTimeout) : step s = s.rxTimeout := by
  rw [step, h]

theorem step_of_input {s : State} {x : Input} {rest : List Input} (h : s.nextMove = .input x rest) :
    step s = runInput x.word { s with inputs := rest } := by
  rw [step, h]

theorem step_of_internal {s : State} {i : Instr} (h : s.nextMove = .internal i) : step s = exec i s.passInput := by
  rw [step, h]

theorem step_of_advance {s : State} (h : s.nextMove = .advance) : step s = s.advance := by
  rw [step, h]

/-- The end of a bus wait answers its caller (42_bus_transport.md R128). -/
theorem busWaitTimeout_next {s t : State} (h : s.busWaitTimeout = .next t) : ∃ w, s.busWait = some w
    ∧ ((w.caller = .bench ∧ t = State.retErr { s with busWait := none } .errBusBusy)
      ∨ (w.caller = .scheduler ∧ t = State.failPoll { s with busWait := none } .errBusBusy)) := by
  unfold State.busWaitTimeout at h
  split at h
  · rename_i w hw
    dsimp only at h
    split at h <;> cases h
    · exact ⟨w, hw, .inl ⟨‹_›, rfl⟩⟩
    · exact ⟨w, hw, .inr ⟨‹_›, rfl⟩⟩
  · cases h

/-- The end of a receive window answers its caller (42_bus_transport.md R133). -/
theorem rxTimeout_next {s t : State} (h : s.rxTimeout = .next t) :
    ∃ r, s.rxOp = some r ∧ t = s.completeReceive r.caller r.got := by
  unfold State.rxTimeout at h
  split at h <;> cases h
  exact ⟨_, ‹_›, rfl⟩

theorem nextMove_busWait {s : State} (h1 : s.txDoneEnabled = false) (h2 : s.deReleaseEnabled = false)
    (h3 : s.busWaitExpired = true) : s.nextMove = .busWaitTimeout := by
  simp [State.nextMove, h1, h2, h3]

theorem busWaitExpired_iff {s : State} {w : BusWait} (hw : s.busWait = some w) :
    s.busWaitExpired = true ↔ s.time = w.issuedAt + 200_000 := by
  have deadline : w.deadline = w.issuedAt + 200_000 := rfl
  simp only [State.busWaitExpired, hw, beq_iff_eq, deadline]

theorem rxExpired_iff {s : State} {r : RxOp} (hr : s.rxOp = some r) :
    s.rxExpired = true ↔ s.time = r.issuedAt + r.timeoutMs * 1000 := by
  simp [State.rxExpired, hr, RxOp.deadline]

/-- A window that ends, where no bytes on the line are due. -/
theorem nextMove_rxTimeout {s : State} (h1 : s.txDoneEnabled = false) (h2 : s.deReleaseEnabled = false)
    (h3 : s.busWaitExpired = false) (h4 : s.rxExpired = true)
    (noLine : ∀ x rest, s.inputs = x :: rest → x.due ≤ s.time → x.isLine = false) : s.nextMove = .rxTimeout := by
  simp only [State.nextMove, h1, h2, h3, h4, State.dueInput]
  cases hx : s.inputs with
  | nil => rfl
  | cons x rest =>
    by_cases hd : x.due ≤ s.time
    · simp [hd, noLine x rest hx hd]
    · simp [hd]

theorem benchMay_of_not_alive {s : State} (h : s.taskAlive = false) (k : Out) : s.benchMay k = k :=
  if_neg (Bool.eq_false_iff.mp h)

theorem benchMay_of_alive {s : State} (h : s.taskAlive = true) (k : Out) : s.benchMay k = .refused .schedulerOwnsBus := if_pos h

theorem whenEnabled_of_true {b : Bool} (h : b = true) (event : String) (k : Out) : whenEnabled b event k = k := if_pos h

theorem whenEnabled_of_not {b : Bool} (h : ¬b = true) (event : String) (k : Out) :
    whenEnabled b event k = .refused (.eventNotEnabled event) := if_neg h

end Sys2Proof.Machine
end

section
/-! Proofs about the Bus Transport's operations and events (42_bus_transport.md R128 to R135). -/

namespace Sys2Proof.Machine

/-- A TRANSMIT of `f`, or a request frame of the bytes `f`, is handed to the transmit side of the bus. -/
theorem exec_handsFrame {i : Instr} {f : List Byte} (h : i = .transmit f ∨ ∃ (a : Byte) (st n crc : U16),
    i = .req8 a st n crc ∧ f = req8Bytes a st n crc) (s : State) : exec i s = s.benchMay (s.issueTransmit .bench f) := by
  obtain rfl | ⟨a, st, n, crc, rfl, rfl⟩ := h <;> rfl

theorem issueTransmit_of_idle {s : State} (h : s.tphase = .idle) (c : Caller) (f : List Byte) :
    s.issueTransmit c f = .next (s.grant c f) := if_pos h

theorem issueTransmit_of_busy {s : State} (h : s.tphase ≠ .idle) (hw : s.busWait = none) (c : Caller) (f : List Byte) :
    s.issueTransmit c f = .next { s with busWait := some ⟨s.time, f, c⟩ } :=
  (if_neg h).trans (if_pos hw)

theorem issueTransmit_of_waiter {s : State} (h : s.tphase ≠ .idle) (hw : s.busWait ≠ none) (c : Caller) (f : List Byte) :
    s.issueTransmit c f = .refused .secondWaiter :=
  (if_neg h).trans (if_neg hw)

/-- Settles O18: either form is a grant at this instant. -/
theorem transmitGrantedOnIdleBus : Obligations.TransmitGrantedOnIdleBus := by
  intro s notAlive idle c
  have granted : ∀ f i, _ → exec i s = .next (s.grant .bench f) := fun f i h => by
    rw [exec_handsFrame h, benchMay_of_not_alive notAlive, issueTransmit_of_idle idle]
  exact ⟨fun f => granted f _ (.inl rfl), fun a st n crc => granted (req8Bytes a st n crc) _ (.inr ⟨a, st, n, crc, rfl, rfl⟩)⟩

/-- Settles O19: the branches of the issue of a TRANSMIT on a busy bus. -/
theorem busyTransmitWaits : Obligations.BusyTransmitWaits := by
  intro s i f h
  rw [exec_handsFrame h]
  refine ⟨fun notAlive busy hw => ?_, fun notAlive busy hw => ?_, fun alive => benchMay_of_alive alive _⟩
  · rw [benchMay_of_not_alive notAlive, issueTransmit_of_busy busy hw]
  · rw [benchMay_of_not_alive notAlive, issueTransmit_of_waiter busy hw]

/-- What a poll that takes an error leaves: the code and its tick on the polled slot, and a scan that goes on (60_exceptions.md R209). -/
theorem failPoll_records {s : State} (e : ErrCode) (free : s.regLock = .free) :
    s.failPoll e = { s with slots := (s.failPoll e).slots, scanI := s.poll.slot.succ, schedPhase := .scanning }
    ∧ (s.failPoll e).slot s.poll.slot = { s.slot s.poll.slot with
        lastPollTick := s.poll.now, snap := { (s.slot s.poll.slot).snap with lastError := e } }
    ∧ ∀ j, j ≠ s.poll.slot → (s.failPoll e).slot j = s.slot j :=
  ⟨failPoll_eq s e, by simp [slot_failPoll, free], fun j hj => by simp [slot_failPoll, hj]⟩

/-- Settles O20: the end of the wait is the next move, and returns or records its error. -/
theorem busWaitEndsInBusBusy : Obligations.BusWaitEndsInBusBusy := by
  intro s w hw expired noDone noRelease
  rw [step_of_busWaitTimeout (nextMove_busWait noDone noRelease ((busWaitExpired_iff hw).mpr expired))]
  simp only [State.busWaitTimeout, hw]
  refine ⟨fun hc => ?_, fun hc free => ?_⟩
  · rw [hc]
    rfl
  · rw [hc]
    exact ⟨_, rfl, failPoll_records (s := { s with busWait := none }) .errBusBusy free⟩

/-- Settles O21: TX_DONE where it is enabled, and where not. -/
theorem txDoneEndsTransmitting : Obligations.TxDoneEndsTransmitting := fun _ =>
  ⟨fun hphase now => whenEnabled_of_true (txDoneEnabled_iff.mpr ⟨hphase, now⟩) ..,
    fun h => whenEnabled_of_not (fun enabled => h (txDoneEnabled_iff.mp enabled)) ..⟩

theorem exec_deRelease_of_none {s : State} (enabled : s.deReleaseEnabled = true) (hw : s.busWait = none) :
    exec .deRelease s = .next s.releaseDe := by
  simp [exec, execDeRelease, whenEnabled, enabled, hw]

theorem exec_deRelease_of_some {s : State} (enabled : s.deReleaseEnabled = true) {w : BusWait} (hw : s.busWait = some w) :
    exec .deRelease s = .next ({ s.releaseDe with busWait := none }.grant w.caller w.frame) := by
  simp [exec, execDeRelease, whenEnabled, enabled, hw]

/-- Settles O22: a release alone, a release and a grant for either caller, and the refusal. -/
theorem deReleaseFreesBus : Obligations.DeReleaseFreesBus := by
  intro s c
  refine ⟨fun armed now hw => exec_deRelease_of_none (deReleaseEnabled_iff.mpr ⟨armed, now⟩) hw, fun w armed now hw => ?_,
    fun h => whenEnabled_of_not (fun enabled => h (deReleaseEnabled_iff.mp enabled)) ..⟩
  have log : s.deLog ++ [(s.time, false), (s.time, true)] = s.deLog ++ [(s.time, false)] ++ [(s.time, true)] := by simp
  rw [exec_deRelease_of_some (deReleaseEnabled_iff.mpr ⟨armed, now⟩) hw, log]
  obtain ⟨issuedAt, frame, _ | _⟩ := w <;> rfl

/-- Settles O23: the branches of the issue of a RECEIVE. -/
theorem receiveIssued : Obligations.ReceiveIssued := by
  intro s len ms
  have issued : s.taskAlive = false → exec (.receive len ms) s = s.issueReceive .bench len ms :=
    fun notAlive => benchMay_of_not_alive notAlive _
  refine ⟨fun notAlive long _ => ?_, fun notAlive fits pos none => ?_, fun notAlive zero none => ?_,
    fun notAlive fits pending => ?_, fun alive => benchMay_of_alive alive _⟩ <;> rw [issued notAlive]
  · exact if_pos long
  · exact (if_neg (Nat.not_lt.mpr fits)).trans ((if_pos none).trans (if_neg (Nat.ne_of_gt pos)))
  · subst zero
    exact (if_pos none).trans (by rw [if_pos rfl, returnsSelf none]; rfl)
  · exact (if_neg (Nat.not_lt.mpr fits)).trans (if_neg pending)

theorem deliver_of_none {s : State} (h : s.rxOp = none) (bs : List Byte) : s.deliver bs = s := by
  simp only [State.deliver, h]

/-- Bytes that fill the pending read. -/
theorem deliver_of_enough {s : State} {r : RxOp} (hr : s.rxOp = some r) {bs : List Byte}
    (h : r.len ≤ r.got.length + bs.length) : s.deliver bs = s.completeReceive r.caller ((r.got ++ bs).take r.len) := by
  have full : ((r.got ++ bs).take r.len).length = r.len := by simpa using h
  simp only [State.deliver, hr, if_pos full]

/-- Bytes that leave the pending read short. -/
theorem deliver_of_short {s : State} {r : RxOp} (hr : s.rxOp = some r) {bs : List Byte}
    (h : r.got.length + bs.length < r.len) : s.deliver bs = { s with rxOp := some { r with got := r.got ++ bs } } := by
  have all : (r.got ++ bs).take r.len = r.got ++ bs := List.take_of_length_le (by simpa using h.le)
  have short : (r.got ++ bs).length ≠ r.len := by simpa using h.ne
  simp only [State.deliver, hr, all, if_neg short]

/-- Settles O24: a response frame delivers its bytes, which fill the pending read, fall short of it, or meet none. -/
theorem responseFrameAnswersReceive : Obligations.ResponseFrameAnswersReceive := by
  intro s a data crc f
  have delivers : exec (.rspv a data crc) s = .next (s.deliver f) := rfl
  rw [delivers]
  refine ⟨fun r hr enough hc => ?_, fun r hr enough hc => ?_, fun r hr short => ?_, fun none => ?_⟩
  · rw [deliver_of_enough hr enough, hc]; rfl
  · rw [deliver_of_enough hr enough, hc]; rfl
  · rw [deliver_of_short hr short]
  · rw [deliver_of_none none]

/-- Any bytes on the line are delivered, whether they are a response frame or not. -/
theorem runInput_rxLine (bs : List Byte) (s : State) : runInput (.rxLine bs) s = .next (s.deliver bs) := by
  unfold runInput
  split
  · rename_i i h
    obtain ⟨a, data, crc, rfl, rfl⟩ := eq_rspv_of_decodeResponse h
    rfl
  · rfl

/-- Settles O59: the bytes are the next move, and are delivered to the state without that input. -/
theorem lineBytesAnswerReceive : Obligations.LineBytesAnswerReceive := by
  intro s x rest bs hx due hword noDone noRelease noBusWait order
  have line : x.isLine = true := by simp [Input.isLine, hword]
  rw [step_of_input (nextMove_line noDone noRelease noBusWait hx due line order), hword, runInput_rxLine]
  refine ⟨fun r hr enough hc => ?_, fun r hr enough hc => ?_, fun r hr short => ?_, fun none => ?_⟩
  · rw [deliver_of_enough (s := { s with inputs := rest }) hr enough, hc]; rfl
  · rw [deliver_of_enough (s := { s with inputs := rest }) hr enough, hc]; rfl
  · rw [deliver_of_short (s := { s with inputs := rest }) hr short]
  · rw [deliver_of_none (s := { s with inputs := rest }) none]

/-- Settles O25: the end of the window is the next move, and returns what was received. -/
theorem receiveWindowEnds : Obligations.ReceiveWindowEnds := by
  intro s r hr ends noDone noRelease noBusWait noLine
  rw [step_of_rxTimeout (nextMove_rxTimeout noDone noRelease noBusWait ((rxExpired_iff hr).mpr ends) noLine)]
  simp only [State.rxTimeout, hr]
  exact ⟨fun hc => by rw [hc]; rfl, fun hc => by rw [hc]; rfl⟩

end Sys2Proof.Machine
end

section
/-! Proofs about the Slave Registry's operations (43_registry.md R150 to R155). -/

namespace Sys2Proof.Machine

theorem firstFree_eq_none {s : State} (h : ∀ j, (s.slot j).inUse = true) : s.firstFree = none :=
  List.find?_eq_none.mpr fun j _ => by simp [h j]

theorem exec_register_of_free {s : State} {i : Fin Config.MAX_SLAVES} (hi : s.firstFree = some i) (free : s.regLock = .free)
    (cfg : SlaveConfig) : exec (.register cfg) s = .next ({ s.setSlot i (freshSlot cfg (tickMs s.time)) with
      slaveCount := s.slaveCount + 1 }.ret (.slotIndex i)) := by
  simp only [exec, execRegister, hi, free, if_true]

theorem exec_register_of_full {s : State} (h : ∀ j, (s.slot j).inUse = true) (cfg : SlaveConfig) :
    exec (.register cfg) s = .next (s.retErr .errFull) := by
  simp only [exec, execRegister, firstFree_eq_none h]

/-- Settles O27: the lowest free slot is written with the fresh contents; without one there is no write. -/
theorem registerTakesLowestFreeSlot : Obligations.RegisterTakesLowestFreeSlot := by
  refine fun s cfg => ⟨fun i free hi lowest => ?_, fun full => exec_register_of_full full cfg⟩
  exact ⟨_, exec_register_of_free (firstFree_iff.mpr ⟨hi, lowest⟩) free cfg, rfl,
    fun j hj => slot_setSlot_ne s _ hj, slot_setSlot_self s i _⟩

/-- REGISTER returns a slot index only with that slot fresh. -/
theorem slot_of_exec_register {s t : State} {cfg : SlaveConfig} {i : Fin Config.MAX_SLAVES} (h : exec (.register cfg) s = .next t)
    (hi : t.result = some (.slotIndex i)) : t.slot i = freshSlot cfg (tickMs s.time) := by
  simp only [exec, execRegister] at h
  split at h
  · cases h; cases hi
  · split at h <;> (cases h; cases hi)
    exact slot_setSlot_self s i _

/-- The tick counts on with time, modulo `2^32` (00_scope.md R13). -/
theorem tickMs_later {now later : Nat} (h : now ≤ later) :
    tickMs later = tickMs now + BitVec.ofNat 32 (later / 1000 - now / 1000) := by
  rw [tickMs, tickMs, ← BitVec.ofNat_add, Nat.add_sub_cancel' (Nat.div_le_div_right h)]

/-- Settles O28: the ticks since the seed are the interval and the elapsed milliseconds. -/
theorem registeredSlotIsDue : Obligations.RegisteredSlotIsDue := by
  intro s t cfg i later hexec hresult hle hsum
  rw [slot_of_exec_register hexec hresult]
  have elapsed : tickMs later - seedTick (tickMs s.time) cfg
      = effInterval cfg + BitVec.ofNat 32 (later / 1000 - s.time / 1000) := by
    rw [tickMs_later hle, seedTick]
    ring
  have inRange : (effInterval cfg + BitVec.ofNat 32 (later / 1000 - s.time / 1000)).toNat
      = (effInterval cfg).toNat + (later / 1000 - s.time / 1000) := by
    rw [BitVec.toNat_add, BitVec.toNat_ofNat, Nat.add_mod_mod, Nat.mod_eq_of_lt hsum]
  simp only [isDue, freshSlot, elapsed, inRange, decide_eq_true_eq]
  exact Nat.le_add_right ..

/-- An index outside the table, or of a free slot, names no used slot (R152, R154). -/
theorem usedSlot_eq_none {s : State} {k : Int} (h : k < 0 ∨ 31 < k ∨ ∃ i : Fin 32, k = (i.val : Int) ∧ (s.slot i).inUse = false) :
    s.usedSlot k = none := by
  obtain low | high | ⟨i, rfl, free⟩ := h
  · rw [State.usedSlot, slotOf_out (.inl low)]
  · rw [State.usedSlot, slotOf_out (.inr high)]
  · rw [usedSlot_val, free]
    rfl

theorem usedSlot_of_used {s : State} {k : Int} {i : Fin 32} (hk : k = (i.val : Int)) (used : (s.slot i).inUse = true) :
    s.usedSlot k = some i := by
  rw [hk, usedSlot_val, if_pos used]

theorem pollsSlot_iff {s : State} {i : Fin Config.MAX_SLAVES} : s.pollsSlot i = true ↔ s.schedPhase = .inPoll ∧ s.poll.slot = i := by
  simp [State.pollsSlot]

theorem exec_unregister_of_used {s : State} {k : Int} {i : Fin Config.MAX_SLAVES} (hu : s.usedSlot k = some i)
    (notPolled : ¬s.pollsSlot i = true) : exec (.unregister k) s =
      .next ({ s.setSlot i { s.slot i with inUse := false } with slaveCount := s.slaveCount - 1 }.ret .ok) := by
  simp only [exec, execUnregister, hu, if_neg notPolled]

theorem exec_unregister_of_polled {s : State} {k : Int} {i : Fin Config.MAX_SLAVES} (hu : s.usedSlot k = some i)
    (polled : s.pollsSlot i = true) : exec (.unregister k) s = .refused .slotInFlight := by
  simp only [exec, execUnregister, hu, if_pos polled]

theorem exec_unregister_of_none {s : State} {k : Int} (h : s.usedSlot k = none) :
    exec (.unregister k) s = .next { s with result := some (.err .errNotFound) } := by
  simp only [exec, execUnregister, h]
  rfl

/-- Settles O29: a used slot is freed unless it is the polled one; no other index names a used slot. -/
theorem unregisterFreesSlot : Obligations.UnregisterFreesSlot := by
  refine fun s k => ⟨fun i hk used notPolled => ?_, fun h => exec_unregister_of_none (usedSlot_eq_none h),
    fun i hk used inPoll polled => exec_unregister_of_polled (usedSlot_of_used hk used) (pollsSlot_iff.mpr ⟨inPoll, polled⟩)⟩
  exact ⟨_, exec_unregister_of_used (usedSlot_of_used hk used) (mt pollsSlot_iff.mp notPolled), rfl, slot_setSlot_self s i _,
    fun j hj => slot_setSlot_ne s _ hj⟩

theorem exec_snapshot_of_none {s : State} {k : Int} (h : s.usedSlot k = none) :
    exec (.snapshot k) s = .next { s with result := some (.err .errNotFound) } := by
  simp only [exec, execSnapshot, h]
  rfl

/-- Settles O30: the view of a used slot's snapshot, or no used slot. -/
theorem snapshotReturnsSlotWhole : Obligations.SnapshotReturnsSlotWhole := by
  refine fun s k => ⟨fun i hk used free => ?_, fun h => exec_snapshot_of_none (usedSlot_eq_none h)⟩
  simp only [exec, execSnapshot, usedSlot_of_used hk used, if_pos free]
  rfl

end Sys2Proof.Machine
end

section
/-! Proofs about what a step may do to a slot in use (20_memory.md R58, R64, R65, R70; 10_state.md R29) and which errors a poll
records (44_scheduler.md R181, R173). -/

namespace Sys2Proof.Machine

/-- What becomes of one slot in a transition. -/
inductive SlotChange (s t : State) (k : Fin Config.MAX_SLAVES) : Prop where
  | stays : t.slot k = s.slot k → SlotChange s t k
  | registered (cfg : SlaveConfig) : (s.slot k).inUse = false → t.slot k = freshSlot cfg (tickMs s.time) → SlotChange s t k
  | freed : t.slot k = { s.slot k with inUse := false } → SlotChange s t k
  | failed (e : ErrCode) : PollError s e → s.poll.slot = k → t.slot k = { s.slot k with
      lastPollTick := s.poll.now
      snap := if s.regLock = .free then { (s.slot k).snap with lastError := e } else (s.slot k).snap } → SlotChange s t k
  | published (vals : List U16) : s.schedPhase = .inPoll → s.poll.slot = k →
      parse s.poll.rxbuf s.poll.cfg.address s.poll.cfg.registerCount = .ok vals →
      t.slot k = { s.slot k with
        lastPollTick := s.poll.now
        snap := if s.regLock = .free then (s.slot k).snap.publish vals s.poll.cfg.registerCount.toNat (tickMs s.time)
          else (s.slot k).snap } → SlotChange s t k

theorem slot_publishEnd (s : State) (vals : List U16) (n : Nat) (k : Fin Config.MAX_SLAVES) :
    (s.publish s.poll.slot vals n).endPoll.slot k = if k = s.poll.slot then
      { s.slot k with
        lastPollTick := s.poll.now
        snap := if s.regLock = .free then (s.slot k).snap.publish vals n (tickMs s.time) else (s.slot k).snap }
      else s.slot k := by
  by_cases h : k = s.poll.slot <;> by_cases g : s.regLock = .free <;> simp [slot_endPoll, slot_publish, h, g]

theorem SlotMove.slotChange {s t : State} (h : SlotMove s t) (k : Fin Config.MAX_SLAVES) : SlotChange s t k := by
  cases h with
  | keeps hslots _ => exact .stays (slot_congr hslots k)
  | registers cfg i free hslots _ =>
    have hk := (slot_congr hslots k).trans (slot_setSlot ..)
    split at hk
    · subst k
      exact .registered cfg (firstFree_iff.mp free).1 hk
    · exact .stays hk
  | frees i _ hslots _ =>
    have hk := (slot_congr hslots k).trans (slot_setSlot ..)
    split at hk
    · exact .freed (by rw [hk, ‹k = i›])
    · exact .stays hk
  | fails e he hslots _ =>
    have hk := (slot_congr hslots k).trans (slot_failPoll ..)
    split at hk
    · subst k
      exact .failed e he rfl hk
    · exact .stays hk
  | publishes vals inPoll hparse hslots _ =>
    have hk := (slot_congr hslots k).trans (slot_publishEnd ..)
    split at hk
    · subst k
      exact .published vals inPoll rfl hparse hk
    · exact .stays hk

theorem PollError.ne_ok {s : State} {e : ErrCode} (h : PollError s e) : e ≠ .ok := by
  cases h with
  | rejected _ _ _ _ hparse =>
    rintro rfl
    exact parse_error_ne_ok hparse
  | _ => nofun

/-- The scheduler takes an error only in a poll. -/
theorem PollError.inPoll {s : State} {e : ErrCode} (h : PollError s e) (ok : s.SchedulerOk) : s.schedPhase = .inPoll := by
  cases h with
  | busBusy w hw hc => exact (ok.waiting.mp ⟨w, hw, hc⟩).1
  | noBuffer hp _ => exact hp
  | tooShort hp _ => exact hp
  | rejected _ hp _ _ _ => exact hp

/-- Settles O32: by what becomes of one slot. -/
theorem usedSlotChangesOnlyByItsPoll : Obligations.UsedSlotChangesOnlyByItsPoll := by
  intro s t ok h k used
  cases (step_slotMove h).slotChange k with
  | stays hk => simp [hk]
  | registered _ free => simp [free] at used
  | freed hk => simp [hk]
  | failed e he polled hk => exact ⟨by rw [hk], fun _ => ⟨he.inPoll ok, polled⟩⟩
  | published vals inPoll polled _ hk => exact ⟨by rw [hk], fun _ => ⟨inPoll, polled⟩⟩

/-- What SNAPSHOT shows of a publish: the words that PARSE accepted, all of them and no others (43_registry.md R158). -/
theorem view_publish (n : Snapshot) (vals : List U16) (now : U32) (h : vals.length ≤ 64) :
    (n.publish vals vals.length now).view = ⟨n.address, n.registerStart, n.registerCount, vals, now, .ok⟩ := by
  simp [Snapshot.view, Snapshot.publish, writeWords_toList n.values vals 0 (by omega)]

/-- Settles O33: a slot in use stays, is freed with its snapshot, takes an error code, or shows one response. -/
theorem snapshotOldOrNew : Obligations.SnapshotOldOrNew := by
  intro s t h k used
  cases (step_slotMove h).slotChange k with
  | stays hk => exact .inl (by rw [hk])
  | registered _ free => simp [free] at used
  | freed hk => exact .inl (by rw [hk])
  | failed e he polled hk =>
    rw [hk]
    split
    · exact .inr (.inl ⟨e, he.ne_ok, rfl⟩)
    · exact .inl rfl
  | published vals _ polled hparse hk =>
    obtain ⟨hlen, fits⟩ := parse_ok_length hparse
    rw [hk]
    split
    · refine .inr (.inr ⟨vals, hparse, ?_⟩)
      rw [← hlen] at fits ⊢
      exact view_publish _ _ _ fits
    · exact .inl rfl

/-- PARSE at the expected length never finds the frame short (44_scheduler.md R181): its byte count is the expected one by then. -/
theorem parse_ne_errShortFrame {f : List Byte} {a : Byte} {n : U16} (h : 5 + 2 * n.toNat ≤ f.length) :
    parse f a n ≠ .error .errShortFrame := by
  intro hparse
  have hmin : Config.RSP_MIN = 5 := rfl
  have hoverhead : Config.RSP_OVERHEAD = 5 := rfl
  unfold parse at hparse
  split at hparse; · omega
  split at hparse; · cases hparse
  dsimp only at hparse
  split at hparse; · cases hparse
  split at hparse; · omega
  repeat' split at hparse
  all_goals cases hparse

/-- The errors that PARSE can give (41_frame_codec.md R111). -/
theorem parse_error_mem {f : List Byte} {a : Byte} {n : U16} {e : ErrCode} (hparse : parse f a n = .error e) :
    e ∈ [ErrCode.errShortFrame, .errAddressOrFunctionMismatch, .errByteCountMismatch, .errCrcMismatch, .errTooManyRegisters] := by
  unfold parse at hparse
  split at hparse; · cases hparse; simp
  split at hparse; · cases hparse; simp
  dsimp only at hparse
  repeat' split at hparse
  all_goals cases hparse
  all_goals simp

/-- A coherent scheduler latches the length that its configuration expects, so it never sees a short frame, nor a failed BUILD. -/
theorem PollError.ne_shortFrame_ne_build {s : State} {e : ErrCode} (h : PollError s e) (ok : s.SchedulerOk) :
    e ≠ .errShortFrame ∧ e ≠ .errBuild := by
  cases h with
  | rejected _ hp hs enough hparse =>
    rw [(ok.latched hp (by simp [hs])).1, expectedLen_eq] at enough
    refine ⟨?_, ?_⟩ <;> rintro rfl
    · exact parse_ne_errShortFrame enough hparse
    · simpa using parse_error_mem hparse
  | _ => exact ⟨nofun, nofun⟩

/-- Settles O13: PARSE and BUILD as functions, then the errors that a slot can take. -/
theorem pollNeverSeesShortFrameOrBuildError : Obligations.PollNeverSeesShortFrameOrBuildError := by
  refine ⟨fun f cfg h => parse_ne_errShortFrame h, fun cfg => ⟨_, build_txCap ..⟩, fun s t ok h k => ?_⟩
  have move : SlotMove s t := h.elim (fun h => (exec_trans h).slotMove) step_slotMove
  cases move.slotChange k with
  | stays hk => exact .inl (by rw [hk])
  | registered _ _ hk => exact .inr (by rw [hk]; exact ⟨nofun, nofun⟩)
  | freed hk => exact .inl (by rw [hk])
  | failed e he _ hk =>
    rw [hk]
    split
    · exact .inr (he.ne_shortFrame_ne_build ok)
    · exact .inl rfl
  | published vals _ _ _ hk =>
    rw [hk]
    split
    · exact .inr ⟨nofun, nofun⟩
    · exact .inl rfl

end Sys2Proof.Machine
end

section
/-! Proofs about the Poll Scheduler's operations and events (44_scheduler.md R166 to R184). -/

namespace Sys2Proof.Machine

/-- Settles O36: by evaluation, in every state. -/
theorem stopOnlyClearsRunning : Obligations.StopOnlyClearsRunning := fun _ => rfl

theorem wakeEnabled_iff {s : State} : s.wakeEnabled = true ↔ s.schedPhase = .sleeping ∧ s.time = s.wakeAt := by
  simp [State.wakeEnabled]

theorem scanStepEnabled_iff {s : State} : s.scanStepEnabled = true ↔ s.schedPhase = .scanning ∧ s.scanI.val < 32 := by
  simp [State.scanStepEnabled]

theorem sleepEnabled_iff {s : State} : s.sleepEnabled = true ↔ s.schedPhase = .scanning ∧ s.scanI.val = 32 := by
  simp [State.sleepEnabled]

theorem pollEnabled_iff {s : State} :
    s.pollEnabled = true ↔ s.schedPhase = .inPoll ∧ s.poll.step ≠ .waitBus ∧ s.poll.step ≠ .waitRx := by
  simp [State.pollEnabled]

/-- WAKE at its instant looks at the flag. -/
theorem exec_wake_of_enabled {s : State} (h : s.wakeEnabled = true) : exec .wake s =
    if s.running then .next { s with schedPhase := .scanning, scanI := 0 }
    else .next { s with taskAlive := false, schedPhase := .stopped } :=
  whenEnabled_of_true h ..

/-- Settles O37: the two branches of WAKE, and the refusal. -/
theorem wakeExitsOrStartsScan : Obligations.WakeExitsOrStartsScan := by
  refine fun s => ⟨fun hphase now stopped => ?_, fun hphase now running => ?_,
    fun h => whenEnabled_of_not (mt wakeEnabled_iff.mp h) ..⟩ <;> rw [exec_wake_of_enabled (wakeEnabled_iff.mpr ⟨hphase, now⟩)]
  · exact if_neg (Bool.eq_false_iff.mp stopped)
  · exact if_pos running

/-- SCAN_STEP at slot `i`: the due test decides (R170, R171). -/
theorem exec_scanStep_at {s : State} {i : Fin Config.MAX_SLAVES} (hphase : s.schedPhase = .scanning) (hi : s.scanI.val = i.val) :
    exec .scanStep s = if (s.slot i).inUse && isDue (tickMs s.time) (s.slot i).lastPollTick (s.slot i).cfg then
      .next (s.beginPoll i (tickMs s.time)) else .next { s with scanI := i.succ } := by
  have hlt : s.scanI.val < 32 := hi ▸ i.isLt
  obtain rfl : i = ⟨s.scanI.val, hlt⟩ := Fin.ext hi.symm
  exact (dif_pos hlt).trans (whenEnabled_of_true (scanStepEnabled_iff.mpr ⟨hphase, hlt⟩) ..)

/-- Settles O38: the slot is free, not due, or due. -/
theorem scanStepExaminesOneSlot : Obligations.ScanStepExaminesOneSlot := by
  intro s i hphase hi x now eff
  rw [exec_scanStep_at hphase hi]
  refine ⟨fun free => ?_, fun _ early => ?_, fun used due => ?_⟩
  · rw [if_neg (by simp [show (s.slot i).inUse = false from free])]
  · have notDue : isDue (tickMs s.time) (s.slot i).lastPollTick (s.slot i).cfg = false := decide_eq_false (Nat.not_le.mpr early)
    rw [if_neg (by simp [notDue])]
  · have isDue : isDue (tickMs s.time) (s.slot i).lastPollTick (s.slot i).cfg = true := decide_eq_true due
    rw [if_pos (by rw [isDue, show (s.slot i).inUse = true from used]; rfl)]
    rfl

/-- The latch of a poll that has built its request and issued its TRANSMIT (R173 to R176). -/
def State.requestLatch (s : State) : PollLatch :=
  let header := req8Header s.poll.cfg.address s.poll.cfg.registerStart s.poll.cfg.registerCount
  { s.poll with
    txbuf := header ++ crcBytes (crc16 header)
    expectedLen := expectedLen s.poll.cfg
    timeoutMs := timeoutMs s.baud (expectedLen s.poll.cfg)
    step := .waitBus }

theorem pollStart_eq (s : State) :
    s.pollStart = State.issueTransmit { s with poll := s.requestLatch } .scheduler s.requestLatch.txbuf := by
  rw [State.pollStart, build_txCap]
  rfl

/-- Settles O39: BUILD succeeds, and its frame is granted or waits. -/
theorem pollIssuesTransmit : Obligations.PollIssuesTransmit := by
  intro s hphase hstep cfg h f c len ms
  rw [exec_poll_of_start hphase hstep, pollStart_eq]
  exact ⟨fun idle => issueTransmit_of_idle (s := { s with poll := s.requestLatch }) idle ..,
    fun busy hw => issueTransmit_of_busy (s := { s with poll := s.requestLatch }) busy hw ..⟩

theorem exec_poll_of_granted {s : State} (hphase : s.schedPhase = .inPoll) (hstep : s.poll.step = .granted) :
    exec .poll s = s.pollReceive := by
  have enabled : s.pollEnabled = true := pollEnabled_iff.mpr ⟨hphase, by simp [hstep], by simp [hstep]⟩
  simp only [exec, execPoll, whenEnabled_of_true enabled, hstep]

theorem exec_poll_of_received {s : State} (hphase : s.schedPhase = .inPoll) (hstep : s.poll.step = .received) :
    exec .poll s = .next s.pollFinish := by
  have enabled : s.pollEnabled = true := pollEnabled_iff.mpr ⟨hphase, by simp [hstep], by simp [hstep]⟩
  simp only [exec, execPoll, whenEnabled_of_true enabled, hstep]

/-- Settles O40: the poll's read is pending, or its buffer is too small. -/
theorem pollIssuesReceive : Obligations.PollIssuesReceive := by
  intro s hphase hstep
  rw [exec_poll_of_granted hphase hstep]
  refine ⟨fun fits pos hrx => ?_, fun long free => ⟨_, if_pos long, failPoll_records (s := s.setStep .waitRx) .errAllocation free⟩⟩
  exact (if_neg (Nat.not_lt.mpr fits)).trans ((if_pos hrx).trans (if_neg (Nat.ne_of_gt pos)))

theorem pollFinish_of_short {s : State} (h : s.poll.rxbuf.length < s.poll.expectedLen) : s.pollFinish = s.failPoll .errIoTimeout :=
  if_pos h

theorem pollFinish_of_error {s : State} {e : ErrCode} (enough : s.poll.expectedLen ≤ s.poll.rxbuf.length)
    (hparse : parse s.poll.rxbuf s.poll.cfg.address s.poll.cfg.registerCount = .error e) : s.pollFinish = s.failPoll e := by
  rw [State.pollFinish, if_neg (Nat.not_lt.mpr enough), hparse]

theorem pollFinish_of_ok {s : State} {vals : List U16} (enough : s.poll.expectedLen ≤ s.poll.rxbuf.length)
    (hparse : parse s.poll.rxbuf s.poll.cfg.address s.poll.cfg.registerCount = .ok vals) :
    s.pollFinish = (s.publish s.poll.slot vals s.poll.cfg.registerCount.toNat).endPoll := by
  rw [State.pollFinish, if_neg (Nat.not_lt.mpr enough), hparse]

/-- Settles O41: the slots after a publish and the end of the transaction, and the words it writes. -/
theorem pollPublishesAcceptedResponse : Obligations.PollPublishesAcceptedResponse := by
  intro s vals hphase hstep free enough hparse n x
  obtain ⟨hlen, fits⟩ := parse_ok_length hparse
  rw [exec_poll_of_received hphase hstep, pollFinish_of_ok enough hparse]
  have polled : (s.publish s.poll.slot vals n).endPoll.slot s.poll.slot
      = { x with lastPollTick := s.poll.now, snap := x.snap.publish vals n (tickMs s.time) } := by
    rw [slot_publishEnd, if_pos rfl, if_pos free]
  refine ⟨_, rfl, publishEnd_eq .., fun j hj => by rw [slot_publishEnd, if_neg hj], by rw [polled]; rfl, ?_⟩
  rw [polled]
  simp [Snapshot.publish, ← hlen, n, writeWords_toList x.snap.values vals 0 (by omega)]

/-- Settles O42: both causes take an error, with what that records. -/
theorem pollRecordsFailure : Obligations.PollRecordsFailure := by
  intro s e hphase hstep free cause
  have fails : s.pollFinish = s.failPoll e := by
    obtain ⟨short, rfl⟩ | ⟨enough, hparse⟩ := cause
    · exact pollFinish_of_short short
    · exact pollFinish_of_error enough hparse
  rw [exec_poll_of_received hphase hstep, fails]
  exact ⟨_, rfl, failPoll_records e free⟩

end Sys2Proof.Machine
end

section
/-! Proofs about the order of transitions and the passage of time (60_exceptions.md R206, R207): what a step runs, and what is urgent. -/

namespace Sys2Proof.Machine

/-- During a scan SCAN_STEP is enabled at every slot, and SLEEP behind the last (44_scheduler.md R169, R183). -/
theorem internalEvent_of_scanning {s : State} (h : s.schedPhase = .scanning) :
    s.internalEvent = some (if s.scanI.val < 32 then .scanStep else .sleep) := by
  have range : s.scanI.val ≤ 32 := Nat.le_of_lt_succ s.scanI.isLt
  have noWake : ¬s.wakeEnabled = true := by simp [State.wakeEnabled, h]
  by_cases hlt : s.scanI.val < 32
  · rw [State.internalEvent, if_neg noWake, if_pos (scanStepEnabled_iff.mpr ⟨h, hlt⟩), if_pos hlt]
  · rw [State.internalEvent, if_neg noWake, if_neg (fun e => hlt (scanStepEnabled_iff.mp e).2),
      if_pos (sleepEnabled_iff.mpr ⟨h, by omega⟩), if_neg hlt]

/-- A step lets time pass only where no scheduler event is enabled. -/
theorem step_time_eq_of_internalEvent {s t : State} (hi : s.internalEvent ≠ none) (h : step s = .next t) : t.time = s.time := by
  have urgent := nextMove_ne_advance hi
  cases hm : s.nextMove with
  | timer i =>
    rw [step_of_timer hm] at h
    exact (exec_trans h).time_eq
  | busWaitTimeout =>
    rw [step_of_busWaitTimeout hm] at h
    obtain ⟨w, _, ⟨_, rfl⟩ | ⟨_, rfl⟩⟩ := busWaitTimeout_next h
    · rfl
    · exact failPoll_time ..
  | rxTimeout =>
    rw [step_of_rxTimeout hm] at h
    obtain ⟨r, _, rfl⟩ := rxTimeout_next h
    exact completeReceive_time ..
  | input x rest =>
    rw [step_of_input hm] at h
    exact (runInput_trans h).time_eq
  | internal i =>
    rw [step_of_internal hm] at h
    simpa using (exec_trans h).time_eq
  | advance => exact absurd hm urgent

/-- Settles O43: SLEEP where it is enabled and where not; its urgency is that of every scheduler event. -/
theorem sleepEndsScan : Obligations.SleepEndsScan := by
  refine fun s => ⟨fun hphase hi => whenEnabled_of_true (sleepEnabled_iff.mpr ⟨hphase, hi⟩) ..,
    fun h => whenEnabled_of_not (mt sleepEnabled_iff.mp h) .., fun t hphase _ h => ?_⟩
  exact step_time_eq_of_internalEvent (by simp [internalEvent_of_scanning hphase]) h

/-- Settles O60: the event goes first on the state in which the input yields to one less; the event of a scan; urgency. -/
theorem schedulerEventMayGoFirstAndIsUrgent : Obligations.SchedulerEventMayGoFirstAndIsUrgent := by
  refine ⟨fun s x rest i calm hx due yields hi => ?_, fun s h => internalEvent_of_scanning h,
    fun s t hi h => step_time_eq_of_internalEvent hi h⟩
  rw [step_of_internal (nextMove_yields calm hx due yields hi), passInput_due hx due]

theorem dueInput_eq_none {s : State} (h : ∀ x ∈ s.inputs.head?, s.time < x.due) : s.dueInput = none := by
  unfold State.dueInput
  split
  · rename_i x rest hx
    exact if_neg (Nat.not_le.mpr (h x (by simp [hx])))
  · rfl

theorem nextMove_of_calm {s : State} (h : s.calm = true) : s.nextMove = s.openMove := by
  obtain ⟨h1, h2, h3, h4⟩ := calm_iff.mp h
  simp [State.nextMove, h1, h2, h3, h4]

/-- With no input due there is nothing to pass over. -/
theorem passInput_of_dueInput_none {s : State} (h : s.dueInput = none) : s.passInput = s := by
  unfold State.dueInput at h
  unfold State.passInput
  cases hx : s.inputs with
  | nil => rfl
  | cons x rest =>
    rw [hx] at h
    exact if_neg (fun due => by simp [due] at h)

/-- Settles O51: each kind of transition where those before it are not enabled. -/
theorem timerEventsFireFirst : Obligations.TimerEventsFireFirst := by
  refine fun s => ⟨fun hphase now => ?_, fun notDone armed now => ?_, fun w noDone noRelease hw now => ?_,
    fun i calm hi noInput => ?_⟩
  · exact step_of_timer (if_pos (txDoneEnabled_iff.mpr ⟨hphase, now⟩))
  · exact step_of_timer ((if_neg (mt txDoneEnabled_iff.mp notDone)).trans (if_pos (deReleaseEnabled_iff.mpr ⟨armed, now⟩)))
  · exact step_of_busWaitTimeout (nextMove_busWait noDone noRelease ((busWaitExpired_iff hw).mpr now))
  · have internal : s.nextMove = .internal i := by rw [nextMove_of_calm calm, State.openMove, noInput, hi]
    rw [step_of_internal internal, passInput_of_dueInput_none noInput]

/-- Time passes only past no deadline, to the nearest instant of the horizon. -/
theorem advance_of_horizon {s : State} (hd : ∀ d ∈ s.deadlines, s.time ≤ d) : s.advance =
    match s.horizon with
    | t :: ts => .next { s with time := ts.foldl min t }
    | [] => .next { s with time := s.time + Config.idleDelay s.draws, draws := s.draws + 1 } := by
  refine if_neg ?_
  simpa using hd

/-- A deadline that is pending in a calm state without an enabled scheduler event is still to come. -/
theorem lt_deadline_of_calm {s : State} (calm : s.calm = true) (hi : s.internalEvent = none)
    (hd : ∀ d ∈ s.deadlines, s.time ≤ d) : ∀ d ∈ s.deadlines, s.time < d := by
  intro d hmem
  refine Nat.lt_of_le_of_ne (hd d hmem) ?_
  rintro rfl
  obtain ⟨noDone, noRelease, noBusWait, noRx⟩ := calm_iff.mp calm
  obtain ⟨hphase, now⟩ | ⟨armed, now⟩ | ⟨w, hw, now⟩ | ⟨r, hr, now⟩ | ⟨asleep, now⟩ := mem_deadlines.mp hmem
  · simp [txDoneEnabled_iff.mpr ⟨hphase, now⟩] at noDone
  · simp [deReleaseEnabled_iff.mpr ⟨armed, now⟩] at noRelease
  · simp [State.busWaitExpired, hw, now] at noBusWait
  · simp [State.rxExpired, hr, now] at noRx
  · simp [State.internalEvent, wakeEnabled_iff.mpr ⟨asleep, now⟩] at hi

/-- Settles O50: the next move is the passage of time, to the minimum of the horizon, all of which is still to come. -/
theorem timePassesToNextDeadline : Obligations.TimePassesToNextDeadline := by
  intro s calm hi hin hd
  have advances : s.nextMove = .advance := by rw [nextMove_of_calm calm, State.openMove, dueInput_eq_none hin, hi]
  have later : ∀ d ∈ s.horizon, s.time < d := by
    intro d hmem
    simp only [State.horizon, List.mem_append, Option.mem_toList, Option.map_eq_some_iff] at hmem
    obtain hmem | ⟨x, hx, rfl⟩ := hmem
    · exact lt_deadline_of_calm calm hi hd d hmem
    · exact hin x hx
  rw [step_of_advance advances, advance_of_horizon hd]
  cases hh : s.horizon with
  | nil => exact ⟨fun _ => rfl, fun h => absurd rfl h⟩
  | cons t ts =>
    obtain ⟨leHead, leTail, mem⟩ := foldl_min_le ts t
    refine ⟨nofun, fun _ => ⟨_, rfl, later _ (hh ▸ mem), mem, fun d hmem => ?_⟩⟩
    obtain rfl | hmem := List.mem_cons.mp hmem
    · exact leHead
    · exact leTail d hmem

/-- A table word placed by `withFetchWord` is an input due now that yields to nothing. -/
theorem withFetchWord_decoded {nbits w : Nat} {i : Instr} (h : decodeTableWord nbits w = some i) (s : State) :
    ∃ p, decode p = .ok i ∧ s.withFetchWord nbits w = { s with inputs := ⟨s.time, 0, p⟩ :: s.inputs } := by
  unfold decodeTableWord at h
  split at h
  · rename_i p hp
    refine ⟨p, ?_, by rw [State.withFetchWord, hp]⟩
    cases hdec : decode p <;> rw [hdec] at h <;> cases h
    rfl
  · cases h

theorem runInput_of_decode {w : PortWord} {i : Instr} (h : decode w = .ok i) (s : State) : runInput w s = exec i s := by
  rw [runInput, h]

/-- In a calm state an input that is due now and yields to nothing is taken and run. -/
theorem step_of_placedInput {s : State} (calm : s.calm = true) (p : PortWord) (rest : List Input) :
    step { s with inputs := ⟨s.time, 0, p⟩ :: rest } = runInput p { s with inputs := rest } :=
  step_of_input (nextMove_input (s := { s with inputs := ⟨s.time, 0, p⟩ :: rest }) calm rfl le_rfl (.inl rfl))

/-- Settles O52: the input is the next move, and its word decodes. -/
theorem stepRunsDecodedInstruction : Obligations.StepRunsDecodedInstruction := by
  refine ⟨fun s x rest i calm hx due yields hdec => ?_, fun s nbits w i calm hdec => ?_⟩
  · rw [step_of_input (nextMove_input calm hx due yields), runInput_of_decode hdec]
  · obtain ⟨p, hp, hw⟩ := withFetchWord_decoded hdec s
    rw [hw, step_of_placedInput calm, runInput_of_decode hp]

/-- Settles O58: the table by evaluation; a reserved code is taken as the next input, and refused by its name. -/
theorem commandCodes : Obligations.CommandCodes := by
  refine ⟨by decide, by decide, by decide, by decide, by decide, by decide, by decide, by decide, by decide, by decide, by decide,
    fun code hcode s p calm => ?_⟩
  rw [step_of_placedInput calm]
  simp only [List.mem_cons, List.not_mem_nil, or_false] at hcode
  obtain rfl | rfl | rfl | rfl | rfl := hcode <;> rfl

end Sys2Proof.Machine
end

section
/-! Proofs about the whole machine: reset (70_reset_and_hazards.md R231; 10_state.md R42), no fault and no stop (60_exceptions.md R211,
R221), and the rights of the block (R212, R214). -/

namespace Sys2Proof.Machine

@[simp] theorem reset_slot (i : Fin Config.MAX_SLAVES) : State.reset.slot i = SlaveState.blank := by
  simp [State.slot, State.reset]

theorem reset_transportOk : State.reset.TransportOk := ⟨by decide, rfl, nofun, nofun, nofun, nofun⟩

theorem reset_windowsOk : State.reset.WindowsOk := ⟨rfl, .nil, nofun⟩

theorem reset_schedulerOk : State.reset.SchedulerOk := ⟨by decide, nofun, nofun, ⟨nofun, nofun⟩, ⟨nofun, nofun⟩, nofun⟩

theorem reset_registryOk : State.reset.RegistryOk where
  count := by simp [SlaveState.blank]; rfl
  mirror := by simp [SlaveState.blank]
  capacity := by simp [SlaveState.blank]
  lock := rfl

/-- Settles O45: the four invariants at reset, one by one. -/
theorem invariantsHoldAtReset : Obligations.InvariantsHoldAtReset :=
  ⟨reset_transportOk, reset_windowsOk, reset_schedulerOk, reset_registryOk⟩

theorem usedSlot_reset (k : Int) : State.reset.usedSlot k = none := by
  rw [State.usedSlot]
  split
  · simp [SlaveState.blank]
  · rfl

/-- Settles O44: R42's values by evaluation, the registry's invariant, the idle step, and that no index names a used slot. -/
theorem resetIsQuiescent : Obligations.ResetIsQuiescent := by
  refine ⟨rfl, rfl, rfl, rfl, rfl, rfl, fun i => by rw [reset_slot]; rfl, rfl, rfl, rfl, rfl, rfl, rfl, rfl, reset_registryOk,
    rfl, rfl, rfl, ?_, rfl, fun k => ⟨exec_snapshot_of_none (usedSlot_reset k), exec_unregister_of_none (usedSlot_reset k)⟩⟩
  have idle := (timePassesToNextDeadline State.reset rfl rfl nofun nofun).1 rfl
  rw [idle]
  simp [State.reset]

/-- No deadline of a coherent state is past. -/
theorem le_of_mem_deadlines {s : State} (transport : s.TransportOk) (sched : s.SchedulerOk) : ∀ d ∈ s.deadlines, s.time ≤ d := by
  intro d hd
  obtain ⟨hphase, rfl⟩ | ⟨armed, rfl⟩ | ⟨w, hw, rfl⟩ | ⟨r, hr, rfl⟩ | ⟨asleep, rfl⟩ := mem_deadlines.mp hd
  · exact (transport.txEnd hphase).1
  · exact transport.release armed
  · exact (transport.wait w hw).2
  · exact (transport.window r hr).1
  · exact sched.wake asleep

theorem benchMay_ne_fault {s : State} {k : Out} {r : Fault} (h : k ≠ .fault r) : s.benchMay k ≠ .fault r := by
  unfold State.benchMay
  split
  · nofun
  · exact h

theorem whenEnabled_ne_fault {b : Bool} {event : String} {k : Out} {r : Fault} (h : k ≠ .fault r) :
    whenEnabled b event k ≠ .fault r := fun hf => h (whenEnabled_fault hf)

/-- No instruction faults. -/
theorem exec_ne_fault (i : Instr) (s : State) (r : Fault) : exec i s ≠ .fault r := by
  cases i with
  | transmit f => exact benchMay_ne_fault (issueTransmit_not_fault _ _ _ _)
  | req8 => exact benchMay_ne_fault (issueTransmit_not_fault _ _ _ _)
  | receive len ms => exact benchMay_ne_fault (issueReceive_not_fault _ _ _ _ _)
  | txDone => exact whenEnabled_ne_fault nofun
  | sleep => exact whenEnabled_ne_fault nofun
  | deRelease => exact whenEnabled_ne_fault (by split <;> nofun)
  | wake => exact whenEnabled_ne_fault (by split <;> nofun)
  | poll =>
    refine whenEnabled_ne_fault ?_
    split
    · rw [pollStart_eq]
      exact issueTransmit_not_fault _ _ _ _
    · exact issueReceive_not_fault _ _ _ _ _
    all_goals nofun
  | scanStep =>
    simp only [exec, execScanStep]
    split
    · exact whenEnabled_ne_fault (by split <;> nofun)
    · nofun
  | register | unregister | snapshot =>
    simp only [exec, execRegister, execUnregister, execSnapshot]
    split
    · nofun
    · split <;> nofun
  | start | synth =>
    simp only [exec, execStart, execSynth]
    split <;> nofun
  | crc16 | build | parse | count | stop | rspv => nofun

theorem advance_ne_fault {s : State} (h : ∀ d ∈ s.deadlines, s.time ≤ d) (r : Fault) : s.advance ≠ .fault r := by
  rw [advance_of_horizon h]
  split <;> nofun

theorem runInput_ne_fault (w : PortWord) (s : State) (r : Fault) : runInput w s ≠ .fault r := by
  unfold runInput
  split
  · exact exec_ne_fault _ _ _
  · unfold State.rawInput
    split <;> nofun

/-- Settles O53: only the passage of time could fault, and from a coherent state it does not. -/
theorem noDeadlineIsMissed : Obligations.NoDeadlineIsMissed := by
  intro s r transport sched
  cases hm : s.nextMove with
  | timer i => rw [step_of_timer hm]; exact exec_ne_fault _ _ _
  | busWaitTimeout =>
    rw [step_of_busWaitTimeout hm, State.busWaitTimeout]
    split
    · dsimp only
      split <;> nofun
    · nofun
  | rxTimeout =>
    rw [step_of_rxTimeout hm, State.rxTimeout]
    split <;> nofun
  | input x rest => rw [step_of_input hm]; exact runInput_ne_fault _ _ _
  | internal i => rw [step_of_internal hm]; exact exec_ne_fault _ _ _
  | advance => rw [step_of_advance hm]; exact advance_ne_fault (le_of_mem_deadlines transport sched) r

theorem internalEvent_enabled {s : State} {i : Instr} (h : s.internalEvent = some i) :
    (i = .wake ∧ s.wakeEnabled = true) ∨ (i = .scanStep ∧ s.scanStepEnabled = true) ∨ (i = .sleep ∧ s.sleepEnabled = true)
      ∨ (i = .poll ∧ s.pollEnabled = true) := by
  unfold State.internalEvent at h
  repeat' split at h
  all_goals cases h
  all_goals simp [*]

/-- A bus wait ends only where there is one. -/
theorem exists_busWait_of_nextMove {s : State} (h : s.nextMove = .busWaitTimeout) : ∃ w, s.busWait = some w := by
  unfold State.nextMove State.openMove at h
  repeat' split at h
  all_goals cases h
  rename_i expired
  unfold State.busWaitExpired at expired
  split at expired
  · exact ⟨_, ‹_›⟩
  · cases expired

/-- A receive window ends only where there is one. -/
theorem exists_rxOp_of_nextMove {s : State} (h : s.nextMove = .rxTimeout) : ∃ r, s.rxOp = some r := by
  have expired : s.rxExpired = true := by
    unfold State.nextMove State.openMove at h
    repeat' split at h
    all_goals cases h
    all_goals assumption
  unfold State.rxExpired at expired
  split at expired
  · exact ⟨_, ‹_›⟩
  · cases expired

theorem nextMove_ne_input {s : State} (h : s.dueInput = none) (x : Input) (rest : List Input) : s.nextMove ≠ .input x rest := by
  intro hm
  unfold State.nextMove State.openMove at hm
  rw [h] at hm
  repeat' split at hm
  all_goals cases hm
  all_goals rename_i hx
  all_goals cases hx

/-- The poll goes on at every stage that lasts no time, unless a test bench's call is in its way (44_scheduler.md R185). -/
theorem exec_poll_progress {s : State} (ok : s.SchedulerOk) (enabled : s.pollEnabled = true)
    (noBenchWait : ∀ w, s.busWait = some w → w.caller = .scheduler) (noBenchRead : ∀ r, s.rxOp = some r → r.caller = .scheduler) :
    ∃ t, exec .poll s = .next t := by
  obtain ⟨hphase, notWaitBus, notWaitRx⟩ := pollEnabled_iff.mp enabled
  have noWait : s.busWait = none := Option.eq_none_iff_forall_ne_some.mpr fun w hw =>
    notWaitBus (ok.waiting.mp ⟨w, hw, noBenchWait w hw⟩).2
  have noRead : s.rxOp = none := Option.eq_none_iff_forall_ne_some.mpr fun r hr =>
    notWaitRx (ok.reading.mp ⟨r, hr, noBenchRead r hr⟩).2
  cases hstep : s.poll.step with
  | start =>
    rw [exec_poll_of_start hphase hstep, pollStart_eq]
    by_cases idle : s.tphase = .idle
    · exact ⟨_, issueTransmit_of_idle (s := { s with poll := s.requestLatch }) idle ..⟩
    · exact ⟨_, issueTransmit_of_busy (s := { s with poll := s.requestLatch }) idle noWait ..⟩
  | granted =>
    rw [exec_poll_of_granted hphase hstep, State.pollReceive, State.issueReceive, setStep_rxOp, if_pos noRead]
    split
    · exact ⟨_, rfl⟩
    · split <;> exact ⟨_, rfl⟩
  | received => exact ⟨_, exec_poll_of_received hphase hstep⟩
  | waitBus => exact absurd hstep notWaitBus
  | waitRx => exact absurd hstep notWaitRx

/-- Settles O54: every kind of move that is left has a next state. -/
theorem blockNeverStopsByItself : Obligations.BlockNeverStopsByItself := by
  intro s ok noInputs noBenchWait noBenchRead
  have noInput : s.dueInput = none := dueInput_eq_none (by simp [noInputs])
  cases hm : s.nextMove with
  | timer i =>
    rw [step_of_timer hm]
    obtain ⟨rfl, enabled⟩ | ⟨rfl, enabled⟩ := nextMove_timer hm
    · exact ⟨_, whenEnabled_of_true enabled ..⟩
    · cases hw : s.busWait with
      | none => exact ⟨_, exec_deRelease_of_none enabled hw⟩
      | some w => exact ⟨_, exec_deRelease_of_some enabled hw⟩
  | busWaitTimeout =>
    obtain ⟨w, hw⟩ := exists_busWait_of_nextMove hm
    rw [step_of_busWaitTimeout hm]
    simp only [State.busWaitTimeout, hw, noBenchWait w hw]
    exact ⟨_, rfl⟩
  | rxTimeout =>
    obtain ⟨r, hr⟩ := exists_rxOp_of_nextMove hm
    rw [step_of_rxTimeout hm]
    simp only [State.rxTimeout, hr]
    exact ⟨_, rfl⟩
  | input x rest => exact absurd hm (nextMove_ne_input noInput x rest)
  | internal i =>
    rw [step_of_internal hm, passInput_of_dueInput_none noInput]
    obtain ⟨rfl, enabled⟩ | ⟨rfl, enabled⟩ | ⟨rfl, enabled⟩ | ⟨rfl, enabled⟩ := internalEvent_enabled (nextMove_internal hm)
    · rw [exec_wake_of_enabled enabled]
      split <;> exact ⟨_, rfl⟩
    · obtain ⟨hphase, hlt⟩ := scanStepEnabled_iff.mp enabled
      rw [exec_scanStep_at (i := ⟨s.scanI.val, hlt⟩) hphase rfl]
      split <;> exact ⟨_, rfl⟩
    · exact ⟨_, whenEnabled_of_true enabled ..⟩
    · exact exec_poll_progress ok.scheduler enabled noBenchWait noBenchRead
  | advance =>
    rw [step_of_advance hm, advance_of_horizon (le_of_mem_deadlines ok.transport ok.scheduler)]
    split <;> exact ⟨_, rfl⟩

/-- What registration and the lifecycle operations own of a state. -/
def State.registration (s : State) :=
  (s.slaveCount, s.running, fun k : Fin Config.MAX_SLAVES => ((s.slot k).inUse, (s.slot k).cfg))

theorem registration_congr {s t : State} (hcount : t.slaveCount = s.slaveCount) (hrun : t.running = s.running)
    (hslots : t.slots = s.slots) : t.registration = s.registration := by
  simp only [State.registration, hcount, hrun, slot_congr hslots]

theorem failPoll_registration (s : State) (e : ErrCode) : (s.failPoll e).registration = s.registration := by
  have slots : ∀ k, ((s.failPoll e).slot k).inUse = (s.slot k).inUse ∧ ((s.failPoll e).slot k).cfg = (s.slot k).cfg := by
    intro k
    rw [slot_failPoll]
    split <;> simp [*]
  simp [State.registration, slots]

theorem pollFinish_registration (s : State) : s.pollFinish.registration = s.registration := by
  obtain ⟨_, h⟩ | ⟨e, _, _, h⟩ | ⟨vals, _, _, h⟩ := pollFinish_cases s <;> rw [h]
  · exact failPoll_registration ..
  · exact failPoll_registration ..
  · have slots : ∀ n k, ((s.publish s.poll.slot vals n).endPoll.slot k).inUse = (s.slot k).inUse
        ∧ ((s.publish s.poll.slot vals n).endPoll.slot k).cfg = (s.slot k).cfg := by
      intro n k
      rw [slot_publishEnd]
      split <;> exact ⟨rfl, rfl⟩
    simp [State.registration, slots]

theorem issueTransmit_registration {s t : State} {c : Caller} {f : List Byte} (h : s.issueTransmit c f = .next t) :
    t.registration = s.registration := by
  obtain ⟨_, rfl⟩ | ⟨_, _, rfl⟩ := issueTransmit_next h
  · exact registration_congr (by simp) (by simp) (by simp)
  · rfl

theorem pollReceive_registration {s t : State} (h : s.pollReceive = .next t) : t.registration = s.registration := by
  unfold State.pollReceive State.issueReceive at h
  split at h
  · cases h
    exact failPoll_registration ..
  · split at h
    · split at h <;> cases h <;> rfl
    · cases h

/-- None of the six internal events touches what registration owns (60_exceptions.md R212, R214). -/
theorem exec_event_registration {s t : State} {i : Instr} (hi : i ∈ [Instr.txDone, .deRelease, .wake, .scanStep, .sleep, .poll])
    (h : exec i s = .next t) : t.registration = s.registration := by
  simp only [List.mem_cons, List.not_mem_nil, or_false] at hi
  obtain rfl | rfl | rfl | rfl | rfl | rfl := hi
  · obtain ⟨_, h⟩ := whenEnabled_next h
    cases h
    rfl
  · obtain ⟨_, h⟩ := whenEnabled_next h
    split at h <;> cases h
    · exact registration_congr (by simp) (by simp) (by simp)
    · rfl
  · obtain ⟨_, h⟩ := whenEnabled_next h
    split at h <;> cases h <;> rfl
  · simp only [exec, execScanStep] at h
    split at h
    · obtain ⟨_, h⟩ := whenEnabled_next h
      split at h <;> cases h <;> rfl
    · cases h
  · obtain ⟨_, h⟩ := whenEnabled_next h
    cases h
    rfl
  · obtain ⟨_, h⟩ := whenEnabled_next h
    split at h
    · rw [pollStart_eq] at h
      exact (issueTransmit_registration h).trans rfl
    · exact pollReceive_registration h
    · cases h
      exact pollFinish_registration s
    all_goals cases h

/-- A step that is not a move of the outside keeps what registration owns. -/
theorem step_registration {s t : State} (notInput : ∀ x rest, s.nextMove ≠ .input x rest) (h : step s = .next t) :
    t.registration = s.registration := by
  cases hm : s.nextMove with
  | timer i =>
    rw [step_of_timer hm] at h
    refine exec_event_registration ?_ h
    obtain ⟨rfl, _⟩ | ⟨rfl, _⟩ := nextMove_timer hm <;> simp
  | busWaitTimeout =>
    rw [step_of_busWaitTimeout hm] at h
    obtain ⟨w, _, ⟨_, rfl⟩ | ⟨_, rfl⟩⟩ := busWaitTimeout_next h
    · rfl
    · exact failPoll_registration ..
  | rxTimeout =>
    rw [step_of_rxTimeout hm] at h
    obtain ⟨r, _, rfl⟩ := rxTimeout_next h
    exact registration_congr (by simp) (by simp) (by simp)
  | input x rest => exact absurd hm (notInput x rest)
  | internal i =>
    rw [step_of_internal hm] at h
    have hi := internalEvent_mem (nextMove_internal hm)
    refine (exec_event_registration ?_ h).trans (registration_congr (by simp) (by simp) (by simp))
    simp only [List.mem_cons, List.not_mem_nil, or_false] at hi ⊢
    tauto
  | advance =>
    rw [step_of_advance hm] at h
    unfold State.advance at h
    split at h
    · cases h
    · split at h <;> cases h <;> rfl

/-- Settles O34: the parts of what registration owns. -/
theorem blockLeavesRegistrationAlone : Obligations.BlockLeavesRegistrationAlone := by
  intro s t notInput h
  have same := step_registration notInput h
  simp only [State.registration, Prod.mk.injEq] at same
  obtain ⟨hcount, hrun, hslots⟩ := same
  exact ⟨hcount, hrun, fun k => Prod.mk.inj (congrFun hslots k)⟩

end Sys2Proof.Machine
end

section
/-! Proofs that nothing depends on unspecified state (10_state.md R42; 93_implementation_defined.md U3): each shared operation leads from a
state and from its forgotten form to states that forget to the same. -/

namespace Sys2Proof.Machine

/-- A slot with the contents of a free slot forgotten. -/
def SlaveState.forget (x : SlaveState) : SlaveState := if x.inUse then x else SlaveState.blank

@[simp] theorem SlaveState.forget_inUse (x : SlaveState) : x.forget.inUse = x.inUse := by
  unfold SlaveState.forget
  split
  · rfl
  · simp_all [SlaveState.blank]

theorem SlaveState.forget_of_used {x : SlaveState} (h : x.inUse = true) : x.forget = x := if_pos h

@[simp] theorem SlaveState.forget_forget (x : SlaveState) : x.forget.forget = x.forget := by
  cases h : x.inUse with
  | true => rw [SlaveState.forget_of_used h, SlaveState.forget_of_used h]
  | false => simp [SlaveState.forget, h, SlaveState.blank]

@[simp] theorem PollLatch.forget_forget (p : PollLatch) : p.forget.forget = p.forget := by
  simp only [PollLatch.forget]
  split <;> split <;> simp_all

variable (s : State)

@[simp] theorem forget_slot (k : Fin Config.MAX_SLAVES) : s.forget.slot k = (s.slot k).forget := by
  simp only [State.slot, State.forget, SlaveState.forget, Fin.getElem_fin, Vector.getElem_map]
  rfl

theorem forget_poll_of_inPoll {s : State} (h : s.schedPhase = .inPoll) : s.forget.poll = s.poll.forget := if_pos h

@[simp] theorem forget_firstFree : s.forget.firstFree = s.firstFree := by simp [State.firstFree]

@[simp] theorem forget_usedSlot (k : Int) : s.forget.usedSlot k = s.usedSlot k := by simp [State.usedSlot]

@[simp] theorem forget_armed : s.forget.deTimer.armed = s.deTimer.armed := by
  cases h : s.deTimer.armed <;> simp [State.forget, h]

/-! The enabling conditions read each instant only in its phase. -/

@[simp] theorem forget_txDoneEnabled : s.forget.txDoneEnabled = s.txDoneEnabled := by
  rw [Bool.eq_iff_iff, txDoneEnabled_iff, txDoneEnabled_iff]
  simp +contextual [State.forget]

@[simp] theorem forget_deReleaseEnabled : s.forget.deReleaseEnabled = s.deReleaseEnabled := by
  rw [Bool.eq_iff_iff, deReleaseEnabled_iff, deReleaseEnabled_iff, forget_armed]
  simp +contextual [State.forget]

@[simp] theorem forget_wakeEnabled : s.forget.wakeEnabled = s.wakeEnabled := by
  rw [Bool.eq_iff_iff, wakeEnabled_iff, wakeEnabled_iff]
  simp +contextual [State.forget]

@[simp] theorem forget_scanStepEnabled : s.forget.scanStepEnabled = s.scanStepEnabled := by
  rw [Bool.eq_iff_iff, scanStepEnabled_iff, scanStepEnabled_iff]
  simp +contextual [State.forget]

@[simp] theorem forget_sleepEnabled : s.forget.sleepEnabled = s.sleepEnabled := by
  rw [Bool.eq_iff_iff, sleepEnabled_iff, sleepEnabled_iff]
  simp +contextual [State.forget]

@[simp] theorem forget_pollEnabled : s.forget.pollEnabled = s.pollEnabled := by
  rw [Bool.eq_iff_iff, pollEnabled_iff, pollEnabled_iff]
  simp +contextual [State.forget, PollLatch.forget]

@[simp] theorem forget_internalEvent : s.forget.internalEvent = s.internalEvent := by simp [State.internalEvent]

@[simp] theorem forget_nextMove : s.forget.nextMove = s.nextMove := by
  have hbus : s.forget.busWaitExpired = s.busWaitExpired := rfl
  have hrx : s.forget.rxExpired = s.rxExpired := rfl
  have hdue : s.forget.dueInput = s.dueInput := rfl
  simp only [State.nextMove, State.openMove, forget_txDoneEnabled, forget_deReleaseEnabled, forget_internalEvent, hbus, hrx, hdue]

@[simp] theorem forget_deadlines : s.forget.deadlines = s.deadlines := by
  unfold State.deadlines
  rw [forget_armed]
  congr 1
  · congr 3
    · simp only [State.forget]; split <;> rfl
    · simp only [State.forget]; split <;> rfl
  · simp only [State.forget]; split <;> rfl

end Sys2Proof.Machine
end

section
/-! The simulation behind O55: a state and its forgotten form agree on all that is specified, and every transition keeps that. -/

namespace Sys2Proof.Machine

/-- `a` agrees with `s` on all that is specified: on every field but six, and on each of the six in its phase. -/
structure Agrees (a s : State) : Prop where
  same : a = { s with
    txDataEnd := a.txDataEnd, deTimer := a.deTimer, slots := a.slots, scanI := a.scanI, wakeAt := a.wakeAt, poll := a.poll }
  txEnd : s.tphase = .transmitting → a.txDataEnd = s.txDataEnd
  armed : a.deTimer.armed = s.deTimer.armed
  timer : s.deTimer.armed = true → a.deTimer = s.deTimer
  slots : ∀ k, (a.slot k).forget = (s.slot k).forget
  scan : s.schedPhase = .scanning → a.scanI = s.scanI
  wake : s.schedPhase = .sleeping → a.wakeAt = s.wakeAt
  poll : s.schedPhase = .inPoll → a.poll.forget = s.poll.forget

/-- States that agree forget to the same: the sixteen fields by `same`, the six one by one. -/
theorem Agrees.forget_eq {a s : State} (h : Agrees a s) : a.forget = s.forget := by
  have tphase : a.tphase = s.tphase := by rw [h.same]
  have schedPhase : a.schedPhase = s.schedPhase := by rw [h.same]
  have txEnd : a.forget.txDataEnd = s.forget.txDataEnd := by
    simp only [State.forget, tphase]
    exact if_ctx_congr Iff.rfl h.txEnd fun _ => rfl
  have timer : a.forget.deTimer = s.forget.deTimer := by
    simp only [State.forget, h.armed]
    exact if_ctx_congr Iff.rfl h.timer fun _ => rfl
  have slots : a.forget.slots = s.forget.slots := slots_ext fun k => by rw [forget_slot, forget_slot, h.slots]
  have scan : a.forget.scanI = s.forget.scanI := by
    simp only [State.forget, schedPhase]
    exact if_ctx_congr Iff.rfl h.scan fun _ => rfl
  have wake : a.forget.wakeAt = s.forget.wakeAt := by
    simp only [State.forget, schedPhase]
    exact if_ctx_congr Iff.rfl h.wake fun _ => rfl
  have poll : a.forget.poll = s.forget.poll := by
    simp only [State.forget, schedPhase]
    exact if_ctx_congr Iff.rfl h.poll fun _ => rfl
  calc a.forget
    _ = { s with
          txDataEnd := a.forget.txDataEnd, deTimer := a.forget.deTimer, slots := a.forget.slots, scanI := a.forget.scanI
          wakeAt := a.forget.wakeAt, poll := a.forget.poll } :=
      congrArg (fun x : State => { x with
          txDataEnd := a.forget.txDataEnd, deTimer := a.forget.deTimer, slots := a.forget.slots, scanI := a.forget.scanI
          wakeAt := a.forget.wakeAt, poll := a.forget.poll }) h.same
    _ = s.forget := by
      rw [txEnd, timer, slots, scan, wake, poll]
      rfl

theorem forget_agrees (s : State) : Agrees s.forget s where
  same := rfl
  txEnd := fun h => if_pos h
  armed := forget_armed s
  timer := fun h => if_pos h
  slots := fun k => by rw [forget_slot, SlaveState.forget_forget]
  scan := fun h => if_pos h
  wake := fun h => if_pos h
  poll := fun h => by rw [forget_poll_of_inPoll h, PollLatch.forget_forget]

variable (s : State)

/-- Outcomes that forget to the same. -/
def OutAgrees (o o' : Out) : Prop := Out.map State.forget o = Out.map State.forget o'

theorem Agrees.out {a s : State} (h : Agrees a s) : OutAgrees (.next a) (.next s) := congrArg Host.Outcome.next h.forget_eq

theorem ret_agrees (r : OpResult) : Agrees (s.forget.ret r) (s.ret r) := { forget_agrees s with same := rfl }

theorem retExcept_agrees {α : Type} (ok : α → OpResult) (e : Except ErrCode α) :
    Agrees (s.forget.retExcept ok e) (s.retExcept ok e) := by
  cases e <;> exact ret_agrees ..

theorem benchMay_agrees {s : State} {k k' : Out} (h : OutAgrees k k') : OutAgrees (s.forget.benchMay k) (s.benchMay k') := by
  unfold State.benchMay
  have alive : s.forget.taskAlive = s.taskAlive := rfl
  rw [alive]
  split
  · rfl
  · exact h

theorem whenEnabled_agrees {b : Bool} {event : String} {k k' : Out} (h : b = true → OutAgrees k k') :
    OutAgrees (whenEnabled b event k) (whenEnabled b event k') := by
  unfold whenEnabled
  split
  · exact h ‹_›
  · rfl

theorem grant_bench_agrees (f : List Byte) : Agrees (s.forget.grant .bench f) (s.grant .bench f) :=
  { forget_agrees s with
    same := rfl
    txEnd := fun _ => rfl
    armed := rfl
    timer := fun _ => rfl }

theorem issueTransmit_bench_agrees (f : List Byte) : OutAgrees (s.forget.issueTransmit .bench f) (s.issueTransmit .bench f) := by
  have idle : s.forget.tphase = s.tphase := rfl
  have waiter : s.forget.busWait = s.busWait := rfl
  simp only [State.issueTransmit, idle, waiter]
  split
  · exact (grant_bench_agrees s f).out
  · split
    · exact Agrees.out { forget_agrees s with same := rfl }
    · rfl

theorem issueReceive_bench_agrees (len ms : Nat) : OutAgrees (s.forget.issueReceive .bench len ms) (s.issueReceive .bench len ms) := by
  have reader : s.forget.rxOp = s.rxOp := rfl
  simp only [State.issueReceive, reader]
  split
  · exact (ret_agrees ..).out
  · split
    · split <;> exact Agrees.out { forget_agrees s with same := rfl }
    · rfl

theorem forget_slot_setSlot {x y : SlaveState} (i k : Fin Config.MAX_SLAVES) (h : x.forget = y.forget) :
    ((s.forget.setSlot i x).slot k).forget = ((s.setSlot i y).slot k).forget := by
  rw [slot_setSlot, slot_setSlot]
  split
  · exact h
  · rw [forget_slot, SlaveState.forget_forget]

theorem register_agrees (cfg : SlaveConfig) : OutAgrees (exec (.register cfg) s.forget) (exec (.register cfg) s) := by
  have lock : s.forget.regLock = s.regLock := rfl
  simp only [exec, execRegister, forget_firstFree, lock]
  split
  · exact (ret_agrees ..).out
  · split
    · exact Agrees.out { forget_agrees s with
        same := rfl
        slots := fun k => forget_slot_setSlot s _ k rfl }
    · exact (ret_agrees ..).out

/-- A slot that is freed forgets all it held. -/
theorem forget_freed (x : SlaveState) : ({ x with inUse := false } : SlaveState).forget = SlaveState.blank := if_neg nofun

theorem used_of_usedSlot {s : State} {k : Int} {i : Fin Config.MAX_SLAVES} (h : s.usedSlot k = some i) : (s.slot i).inUse = true := by
  unfold State.usedSlot at h
  split at h
  · split at h <;> cases h
    assumption
  · cases h

theorem unregister_agrees (k : Int) : OutAgrees (exec (.unregister k) s.forget) (exec (.unregister k) s) := by
  have polls : ∀ i, s.forget.pollsSlot i = s.pollsSlot i := fun i => by
    rw [Bool.eq_iff_iff, pollsSlot_iff, pollsSlot_iff]
    simp +contextual [State.forget, PollLatch.forget]
  simp only [exec, execUnregister, forget_usedSlot, polls]
  split
  · exact (ret_agrees ..).out
  · split
    · rfl
    · exact Agrees.out { forget_agrees s with
        same := rfl
        slots := fun k => forget_slot_setSlot s _ k ((forget_freed _).trans (forget_freed _).symm) }

theorem snapshot_agrees (k : Int) : OutAgrees (exec (.snapshot k) s.forget) (exec (.snapshot k) s) := by
  have lock : s.forget.regLock = s.regLock := rfl
  simp only [exec, execSnapshot, forget_usedSlot, lock]
  split
  · exact (ret_agrees ..).out
  · rename_i i hi
    rw [forget_slot, SlaveState.forget_of_used (used_of_usedSlot hi)]
    split <;> exact (ret_agrees ..).out

theorem start_agrees : OutAgrees (exec .start s.forget) (exec .start s) := by
  have alive : s.forget.taskAlive = s.taskAlive := rfl
  simp only [exec, execStart, alive]
  split
  · exact Agrees.out { forget_agrees s with same := rfl }
  · exact Agrees.out { forget_agrees s with
      same := rfl
      scan := nofun
      wake := fun _ => rfl
      poll := nofun }

/-- The return of a read: a poll's latch forgets its stage's bytes and keeps what steps 1 to 3 wrote. -/
theorem completeReceive_agrees {s : State} {c : Caller} (begun : c = .scheduler → s.schedPhase = .inPoll ∧ s.poll.step ≠ .start)
    (bs : List Byte) : Agrees (s.forget.completeReceive c bs) (s.completeReceive c bs) := by
  cases c with
  | bench => exact { forget_agrees s with same := rfl }
  | scheduler =>
    obtain ⟨hp, hs⟩ := begun rfl
    exact { forget_agrees s with
      same := rfl
      poll := fun _ => by simp [forget_poll_of_inPoll hp, PollLatch.forget, hs] }

/-- A pending read of the scheduler is that of a poll that has begun. -/
theorem begun_of_reading {s : State} (ok : s.SchedulerOk) {r : RxOp} (hr : s.rxOp = some r) (hc : r.caller = .scheduler) :
    s.schedPhase = .inPoll ∧ s.poll.step ≠ .start := by
  obtain ⟨hp, hs⟩ := ok.reading.mp ⟨r, hr, hc⟩
  exact ⟨hp, by simp [hs]⟩

theorem deliver_agrees {s : State} (ok : s.SchedulerOk) (bs : List Byte) : Agrees (s.forget.deliver bs) (s.deliver bs) := by
  have reader : s.forget.rxOp = s.rxOp := rfl
  unfold State.deliver
  rw [reader]
  split
  · rename_i r hr
    dsimp only
    split
    · exact completeReceive_agrees (begun_of_reading ok hr) _
    · exact { forget_agrees s with same := rfl }
  · exact forget_agrees s

theorem releaseDe_agrees : Agrees s.forget.releaseDe s.releaseDe :=
  { forget_agrees s with
    same := rfl
    txEnd := nofun
    armed := rfl
    timer := nofun }

/-- The grant of the waiting TRANSMIT. -/
theorem waiterGranted_agrees {s : State} (ok : s.SchedulerOk) {w : BusWait} (hw : s.busWait = some w) :
    Agrees ({ s.forget.releaseDe with busWait := none }.grant w.caller w.frame)
      ({ s.releaseDe with busWait := none }.grant w.caller w.frame) := by
  cases hc : w.caller with
  | bench =>
    exact { forget_agrees s with
      same := rfl
      txEnd := fun _ => rfl
      armed := rfl
      timer := fun _ => rfl }
  | scheduler =>
    obtain ⟨hp, hs⟩ := ok.waiting.mp ⟨w, hw, hc⟩
    exact { forget_agrees s with
      same := rfl
      txEnd := fun _ => rfl
      armed := rfl
      timer := fun _ => rfl
      poll := fun _ => by
        simp [forget_poll_of_inPoll hp, PollLatch.forget, hs] }

theorem deRelease_agrees {s : State} (ok : s.SchedulerOk) : OutAgrees (exec .deRelease s.forget) (exec .deRelease s) := by
  have waiter : s.forget.busWait = s.busWait := rfl
  simp only [exec, execDeRelease, forget_deReleaseEnabled, waiter]
  refine whenEnabled_agrees fun _ => ?_
  split
  · exact (waiterGranted_agrees ok ‹_›).out
  · exact (releaseDe_agrees s).out

theorem txDone_agrees : OutAgrees (exec .txDone s.forget) (exec .txDone s) := by
  simp only [exec, execTxDone, forget_txDoneEnabled]
  exact whenEnabled_agrees fun _ => Agrees.out { forget_agrees s with same := rfl, txEnd := nofun }

theorem wake_agrees : OutAgrees (exec .wake s.forget) (exec .wake s) := by
  have running : s.forget.running = s.running := rfl
  simp only [exec, execWake, forget_wakeEnabled, running]
  refine whenEnabled_agrees fun _ => ?_
  split
  · exact Agrees.out { forget_agrees s with same := rfl, scan := fun _ => rfl, wake := nofun, poll := nofun }
  · exact Agrees.out { forget_agrees s with same := rfl, scan := nofun, wake := nofun, poll := nofun }

theorem sleep_agrees : OutAgrees (exec .sleep s.forget) (exec .sleep s) := by
  have now : s.forget.time = s.time := rfl
  simp only [exec, execSleep, forget_sleepEnabled, now]
  exact whenEnabled_agrees fun _ => Agrees.out { forget_agrees s with
    same := rfl, scan := nofun, wake := fun _ => rfl, poll := nofun }

theorem exec_scanStep_of_not_enabled {s : State} (h : ¬s.scanStepEnabled = true) :
    exec .scanStep s = .refused (.eventNotEnabled "SCAN_STEP") := by
  simp only [exec, execScanStep]
  split
  · exact whenEnabled_of_not h ..
  · rfl

/-- A free slot is passed and a used one is looked at, so what a free slot holds does not matter. -/
theorem scanStep_agrees : OutAgrees (exec .scanStep s.forget) (exec .scanStep s) := by
  by_cases enabled : s.scanStepEnabled = true
  · obtain ⟨hphase, hlt⟩ := scanStepEnabled_iff.mp enabled
    have scan : s.forget.scanI = s.scanI := if_pos hphase
    have now : s.forget.time = s.time := rfl
    rw [exec_scanStep_at (i := ⟨s.scanI.val, hlt⟩) hphase rfl, exec_scanStep_at (s := s.forget) (i := ⟨s.scanI.val, hlt⟩) hphase
      (by rw [scan]), forget_slot, now]
    cases used : (s.slot ⟨s.scanI.val, hlt⟩).inUse with
    | true =>
      rw [SlaveState.forget_of_used used, used]
      split
      · exact Agrees.out { forget_agrees s with
          same := rfl
          scan := nofun
          wake := nofun
          poll := fun _ => by
            simp [PollLatch.forget, SlaveState.forget_of_used used] }
      · exact Agrees.out { forget_agrees s with same := rfl, scan := fun _ => rfl }
    | false =>
      rw [SlaveState.forget_inUse, used]
      exact Agrees.out { forget_agrees s with same := rfl, scan := fun _ => rfl }
  · rw [exec_scanStep_of_not_enabled enabled, exec_scanStep_of_not_enabled (by rwa [forget_scanStepEnabled])]
    rfl

/-- The end of a transaction: only the slots can differ, and they agree. -/
theorem pollEnds_agrees {a b s : State}
    (ha : a = { s.forget with slots := a.slots, scanI := s.poll.slot.succ, schedPhase := .scanning })
    (hb : b = { s with slots := b.slots, scanI := s.poll.slot.succ, schedPhase := .scanning })
    (slots : ∀ k, a.slot k = if k = s.poll.slot then b.slot k else s.forget.slot k)
    (others : ∀ k, k ≠ s.poll.slot → b.slot k = s.slot k) : Agrees a b where
  same := by
    rw [ha, hb]
    rfl
  txEnd := by
    rw [ha, hb]
    exact (forget_agrees s).txEnd
  armed := by
    rw [ha, hb]
    exact (forget_agrees s).armed
  timer := by
    rw [ha, hb]
    exact (forget_agrees s).timer
  slots := fun k => by
    rw [slots k]
    split
    · rfl
    · rw [others k ‹_›, forget_slot, SlaveState.forget_forget]
  scan := fun _ => by rw [ha, hb]
  wake := by rw [hb]; nofun
  poll := by rw [hb]; nofun

section
variable {s : State} (hp : s.schedPhase = .inPoll) (used : (s.slot s.poll.slot).inUse = true)
include hp used

theorem failPoll_agrees (e : ErrCode) : Agrees (s.forget.failPoll e) (s.failPoll e) := by
  have slot : s.forget.poll.slot = s.poll.slot := by rw [forget_poll_of_inPoll hp]; rfl
  have now : s.forget.poll.now = s.poll.now := by rw [forget_poll_of_inPoll hp]; rfl
  have lock : s.forget.regLock = s.regLock := rfl
  refine pollEnds_agrees (s := s) (slot ▸ failPoll_eq s.forget e) (failPoll_eq s e) (fun k => ?_)
    fun k hk => by rw [slot_failPoll, if_neg hk]
  rw [slot_failPoll, slot_failPoll, slot, now, lock, forget_slot, SlaveState.forget_of_used used]
  split <;> rfl

theorem publishEnd_agrees (vals : List U16) (n : Nat) :
    Agrees (s.forget.publish s.forget.poll.slot vals n).endPoll (s.publish s.poll.slot vals n).endPoll := by
  have slot : s.forget.poll.slot = s.poll.slot := by rw [forget_poll_of_inPoll hp]; rfl
  have now : s.forget.poll.now = s.poll.now := by rw [forget_poll_of_inPoll hp]; rfl
  have lock : s.forget.regLock = s.regLock := rfl
  have time : s.forget.time = s.time := rfl
  refine pollEnds_agrees (s := s) (slot ▸ publishEnd_eq s.forget s.forget.poll.slot vals n) (publishEnd_eq s _ vals n) (fun k => ?_)
    fun k hk => by rw [slot_publishEnd, if_neg hk]
  rw [slot_publishEnd, slot_publishEnd, slot, now, lock, time]
  split
  · subst k
    rw [forget_slot, SlaveState.forget_of_used used]
  · rfl

/-- The last stage reads the bytes received, which are forgotten at every other stage only. -/
theorem pollFinish_agrees (hs : s.poll.step = .received) : Agrees s.forget.pollFinish s.pollFinish := by
  have rxbuf : s.forget.poll.rxbuf = s.poll.rxbuf := by simp [forget_poll_of_inPoll hp, PollLatch.forget, hs]
  have len : s.forget.poll.expectedLen = s.poll.expectedLen := by simp [forget_poll_of_inPoll hp, PollLatch.forget, hs]
  have cfg : s.forget.poll.cfg = s.poll.cfg := by rw [forget_poll_of_inPoll hp]; rfl
  obtain ⟨short, h⟩ | ⟨e, enough, hparse, h⟩ | ⟨vals, enough, hparse, h⟩ := pollFinish_cases s <;> rw [h]
  · rw [pollFinish_of_short (by rwa [rxbuf, len])]
    exact failPoll_agrees hp used _
  · rw [pollFinish_of_error (by rwa [rxbuf, len]) (by rw [rxbuf, cfg]; exact hparse)]
    exact failPoll_agrees hp used _
  · rw [pollFinish_of_ok (by rwa [rxbuf, len]) (by rw [rxbuf, cfg]; exact hparse), cfg]
    exact publishEnd_agrees hp used vals _

theorem issueReceive_scheduler_agrees (hs : s.poll.step ≠ .start) (len ms : Nat) :
    OutAgrees (s.forget.issueReceive .scheduler len ms) (s.issueReceive .scheduler len ms) := by
  have reader : s.forget.rxOp = s.rxOp := rfl
  simp only [State.issueReceive, reader]
  split
  · exact (failPoll_agrees hp used _).out
  · split
    · split
      · exact (completeReceive_agrees (fun _ => ⟨hp, hs⟩) _).out
      · exact Agrees.out { forget_agrees s with same := rfl }
    · rfl

/-- At the grant the latch holds what steps 1 to 3 wrote, and no bytes yet. -/
theorem pollReceive_agrees (hs : s.poll.step = .granted) : OutAgrees s.forget.pollReceive s.pollReceive := by
  have waits : s.forget.setStep .waitRx = (s.setStep .waitRx).forget := by
    simp [State.setStep, State.forget, hp, PollLatch.forget, hs]
  have len : s.forget.poll.expectedLen = s.poll.expectedLen := by simp [forget_poll_of_inPoll hp, PollLatch.forget, hs]
  have ms : s.forget.poll.timeoutMs = s.poll.timeoutMs := by simp [forget_poll_of_inPoll hp, PollLatch.forget, hs]
  rw [State.pollReceive, State.pollReceive, waits, len, ms]
  exact issueReceive_scheduler_agrees (s := s.setStep .waitRx) hp used nofun _ _

end

/-- The first stage writes everything of the latch that it does not keep. -/
theorem pollStart_agrees {s : State} (hp : s.schedPhase = .inPoll) : OutAgrees s.forget.pollStart s.pollStart := by
  have latch : s.forget.requestLatch = { s.requestLatch with rxbuf := s.forget.poll.rxbuf } := by
    simp only [State.requestLatch, forget_poll_of_inPoll hp, PollLatch.forget]
    rfl
  have idle : s.forget.tphase = s.tphase := rfl
  have waiter : s.forget.busWait = s.busWait := rfl
  simp only [pollStart_eq, latch, State.issueTransmit, idle, waiter]
  split
  · exact Agrees.out { forget_agrees s with
      same := rfl
      txEnd := fun _ => rfl
      armed := rfl
      timer := fun _ => rfl
      poll := fun _ => rfl }
  · split
    · exact Agrees.out { forget_agrees s with
        same := rfl
        poll := fun _ => rfl }
    · rfl

theorem poll_agrees {s : State} (ok : s.SchedulerOk) : OutAgrees (exec .poll s.forget) (exec .poll s) := by
  simp only [exec, execPoll, forget_pollEnabled]
  refine whenEnabled_agrees fun enabled => ?_
  obtain ⟨hp, notWaitBus, notWaitRx⟩ := pollEnabled_iff.mp enabled
  have used := (ok.inFlight hp).1
  have step : s.forget.poll.step = s.poll.step := by rw [forget_poll_of_inPoll hp]; rfl
  rw [step]
  cases hs : s.poll.step with
  | start => exact pollStart_agrees hp
  | granted => exact pollReceive_agrees hp used hs
  | received => exact (pollFinish_agrees hp used hs).out
  | waitBus => rfl
  | waitRx => rfl

/-- Every instruction does the same to a state and to its forgotten form. -/
theorem exec_agrees {s : State} (ok : s.SchedulerOk) (i : Instr) : OutAgrees (exec i s.forget) (exec i s) := by
  cases i with
  | crc16 | count => exact (ret_agrees ..).out
  | build | parse => exact (retExcept_agrees ..).out
  | synth a n vs =>
    simp only [exec, execSynth]
    split
    · exact (ret_agrees ..).out
    · rfl
  | transmit | req8 => exact benchMay_agrees (issueTransmit_bench_agrees ..)
  | receive => exact benchMay_agrees (issueReceive_bench_agrees ..)
  | register cfg => exact register_agrees s cfg
  | unregister k => exact unregister_agrees s k
  | snapshot k => exact snapshot_agrees s k
  | start => exact start_agrees s
  | stop => exact Agrees.out { forget_agrees s with same := rfl }
  | rspv => exact (deliver_agrees ok _).out
  | txDone => exact txDone_agrees s
  | deRelease => exact deRelease_agrees ok
  | wake => exact wake_agrees s
  | scanStep => exact scanStep_agrees s
  | poll => exact poll_agrees ok
  | sleep => exact sleep_agrees s

theorem busWaitTimeout_agrees {s : State} (ok : s.SchedulerOk) : OutAgrees s.forget.busWaitTimeout s.busWaitTimeout := by
  have waiter : s.forget.busWait = s.busWait := rfl
  unfold State.busWaitTimeout
  rw [waiter]
  split
  · rename_i w hw
    dsimp only
    split
    · exact Agrees.out { forget_agrees s with same := rfl }
    · have hp := (ok.waiting.mp ⟨w, hw, ‹_›⟩).1
      exact (failPoll_agrees (s := { s with busWait := none }) hp (ok.inFlight hp).1 _).out
  · rfl

theorem rxTimeout_agrees {s : State} (ok : s.SchedulerOk) : OutAgrees s.forget.rxTimeout s.rxTimeout := by
  have reader : s.forget.rxOp = s.rxOp := rfl
  unfold State.rxTimeout
  rw [reader]
  split
  · exact (completeReceive_agrees (begun_of_reading ok ‹_›) _).out
  · rfl

theorem runInput_agrees {s : State} (ok : s.SchedulerOk) (w : PortWord) : OutAgrees (runInput w s.forget) (runInput w s) := by
  unfold runInput
  split
  · exact exec_agrees ok _
  · unfold State.rawInput
    split
    · exact (deliver_agrees ok _).out
    all_goals rfl

theorem advance_agrees : OutAgrees s.forget.advance s.advance := by
  have horizon : s.forget.horizon = s.horizon := by
    rw [State.horizon, forget_deadlines]
    rfl
  have now : s.forget.time = s.time := rfl
  simp only [State.advance, forget_deadlines, horizon, now]
  split
  · rfl
  · split <;> exact Agrees.out { forget_agrees s with same := rfl }

theorem forget_passInput : s.forget.passInput = s.passInput.forget := by
  have inputs : s.forget.inputs = s.inputs := rfl
  have now : s.forget.time = s.time := rfl
  unfold State.passInput
  rw [inputs, now]
  split
  · split <;> rfl
  · rfl

/-- Settles O55: both states make the same move, and each kind of move keeps the agreement. -/
theorem nothingDependsOnUnspecifiedState : Obligations.NothingDependsOnUnspecifiedState := by
  intro s ok
  change OutAgrees (step s.forget) (step s)
  cases hm : s.nextMove with
  | timer i =>
    rw [step_of_timer hm, step_of_timer (by rwa [forget_nextMove])]
    exact exec_agrees ok i
  | busWaitTimeout =>
    rw [step_of_busWaitTimeout hm, step_of_busWaitTimeout (by rwa [forget_nextMove])]
    exact busWaitTimeout_agrees ok
  | rxTimeout =>
    rw [step_of_rxTimeout hm, step_of_rxTimeout (by rwa [forget_nextMove])]
    exact rxTimeout_agrees ok
  | input x rest =>
    rw [step_of_input hm, step_of_input ((forget_nextMove s).trans hm)]
    exact runInput_agrees (ok.of_sched_eq (t := { s with inputs := rest }) rfl) _
  | internal i =>
    rw [step_of_internal hm, step_of_internal (by rwa [forget_nextMove]), forget_passInput]
    exact exec_agrees (ok.of_sched_eq (by simp [State.sched])) i
  | advance =>
    rw [step_of_advance hm, step_of_advance (by rwa [forget_nextMove])]
    exact advance_agrees s

end Sys2Proof.Machine
end
